-- ==== Sys2Proof/Word.lean ====
section
/-! DEFINITION. Word.lean: the two word types of the core. Every data register and every memory cell is 8 bits wide,
every address and the program counter are 16 bits wide (00_scope.md rule R5, 20_memory.md rules R45 and R54). -/

namespace Sys2Proof

/-- Eight bits: A, Y, X, S, a memory cell, an operand byte (R5). -/
abbrev Byte := BitVec 8

/-- Sixteen bits: PC, every address given to the port, and the pair YA (R5, R22). -/
abbrev Addr := BitVec 16

end Sys2Proof
end

