-- ==== Sys2Proof/Syntax.lean ====
section
/-! DEFINITION. Syntax.lean: the instructions, one constructor per row of spec/opcode_table.json (213 rows, 256 opcode
values; 30_encoding.md rules R71, R73, R74). Operands stand in assembler order, destination first (R80); their order in
memory is Decode.lean's business. `b` is a bit index 0..7, `v` a table index 0..15, and in the `m.b` forms `a` is a
13-bit address (R74, R77): WellFormed.lean states those bounds. -/

namespace Sys2Proof

/-- One instruction of the core. Each line: the mnemonic of R80, the opcode, the format's operands (R71), the rule. -/
inductive Instr where
  -- executor ImmediateRead (41_reads_basic.md)
  /-- `OR A,#i`, opcode 08; i; R120. -/
  | orAImm (i : Byte)
  /-- `AND A,#i`, opcode 28; i; R121. -/
  | andAImm (i : Byte)
  /-- `EOR A,#i`, opcode 48; i; R122. -/
  | eorAImm (i : Byte)
  /-- `CMP A,#i`, opcode 68; i; R123. -/
  | cmpAImm (i : Byte)
  /-- `ADC A,#i`, opcode 88; i; R124. -/
  | adcAImm (i : Byte)
  /-- `SBC A,#i`, opcode A8; i; R125. -/
  | sbcAImm (i : Byte)
  /-- `MOV A,#i`, opcode E8; i; R126. -/
  | movAImm (i : Byte)
  /-- `MOV X,#i`, opcode CD; i; R127. -/
  | movXImm (i : Byte)
  /-- `MOV Y,#i`, opcode 8D; i; R128. -/
  | movYImm (i : Byte)
  /-- `CMP X,#i`, opcode C8; i; R129. -/
  | cmpXImm (i : Byte)
  /-- `CMP Y,#i`, opcode AD; i; R130. -/
  | cmpYImm (i : Byte)
  -- executor DirectRead (41_reads_basic.md)
  /-- `OR A,d`, opcode 04; d; R131. -/
  | orAD (d : Byte)
  /-- `AND A,d`, opcode 24; d; R132. -/
  | andAD (d : Byte)
  /-- `EOR A,d`, opcode 44; d; R133. -/
  | eorAD (d : Byte)
  /-- `CMP A,d`, opcode 64; d; R134. -/
  | cmpAD (d : Byte)
  /-- `ADC A,d`, opcode 84; d; R135. -/
  | adcAD (d : Byte)
  /-- `SBC A,d`, opcode A4; d; R136. -/
  | sbcAD (d : Byte)
  /-- `MOV A,d`, opcode E4; d; R137. -/
  | movAD (d : Byte)
  /-- `MOV X,d`, opcode F8; d; R138. -/
  | movXD (d : Byte)
  /-- `MOV Y,d`, opcode EB; d; R139. -/
  | movYD (d : Byte)
  /-- `CMP X,d`, opcode 3E; d; R140. -/
  | cmpXD (d : Byte)
  /-- `CMP Y,d`, opcode 7E; d; R141. -/
  | cmpYD (d : Byte)
  -- executor AbsoluteRead (41_reads_basic.md)
  /-- `OR A,!a`, opcode 05; a; R142. -/
  | orAAbs (a : Addr)
  /-- `AND A,!a`, opcode 25; a; R143. -/
  | andAAbs (a : Addr)
  /-- `EOR A,!a`, opcode 45; a; R144. -/
  | eorAAbs (a : Addr)
  /-- `CMP A,!a`, opcode 65; a; R145. -/
  | cmpAAbs (a : Addr)
  /-- `ADC A,!a`, opcode 85; a; R146. -/
  | adcAAbs (a : Addr)
  /-- `SBC A,!a`, opcode A5; a; R147. -/
  | sbcAAbs (a : Addr)
  /-- `MOV A,!a`, opcode E5; a; R148. -/
  | movAAbs (a : Addr)
  /-- `MOV X,!a`, opcode E9; a; R149. -/
  | movXAbs (a : Addr)
  /-- `MOV Y,!a`, opcode EC; a; R150. -/
  | movYAbs (a : Addr)
  /-- `CMP X,!a`, opcode 1E; a; R151. -/
  | cmpXAbs (a : Addr)
  /-- `CMP Y,!a`, opcode 5E; a; R152. -/
  | cmpYAbs (a : Addr)
  -- executor DirectIndexedRead (41_reads_basic.md)
  /-- `OR A,d+X`, opcode 14; d; R153. -/
  | orADX (d : Byte)
  /-- `AND A,d+X`, opcode 34; d; R154. -/
  | andADX (d : Byte)
  /-- `EOR A,d+X`, opcode 54; d; R155. -/
  | eorADX (d : Byte)
  /-- `CMP A,d+X`, opcode 74; d; R156. -/
  | cmpADX (d : Byte)
  /-- `ADC A,d+X`, opcode 94; d; R157. -/
  | adcADX (d : Byte)
  /-- `SBC A,d+X`, opcode B4; d; R158. -/
  | sbcADX (d : Byte)
  /-- `MOV A,d+X`, opcode F4; d; R159. -/
  | movADX (d : Byte)
  /-- `MOV X,d+Y`, opcode F9; d; R160. -/
  | movXDY (d : Byte)
  /-- `MOV Y,d+X`, opcode FB; d; R161. -/
  | movYDX (d : Byte)
  -- executor AbsoluteIndexedRead (41_reads_basic.md)
  /-- `OR A,!a+X`, opcode 15; a; R162. -/
  | orAAbsX (a : Addr)
  /-- `AND A,!a+X`, opcode 35; a; R163. -/
  | andAAbsX (a : Addr)
  /-- `EOR A,!a+X`, opcode 55; a; R164. -/
  | eorAAbsX (a : Addr)
  /-- `CMP A,!a+X`, opcode 75; a; R165. -/
  | cmpAAbsX (a : Addr)
  /-- `ADC A,!a+X`, opcode 95; a; R166. -/
  | adcAAbsX (a : Addr)
  /-- `SBC A,!a+X`, opcode B5; a; R167. -/
  | sbcAAbsX (a : Addr)
  /-- `MOV A,!a+X`, opcode F5; a; R168. -/
  | movAAbsX (a : Addr)
  /-- `OR A,!a+Y`, opcode 16; a; R169. -/
  | orAAbsY (a : Addr)
  /-- `AND A,!a+Y`, opcode 36; a; R170. -/
  | andAAbsY (a : Addr)
  /-- `EOR A,!a+Y`, opcode 56; a; R171. -/
  | eorAAbsY (a : Addr)
  /-- `CMP A,!a+Y`, opcode 76; a; R172. -/
  | cmpAAbsY (a : Addr)
  /-- `ADC A,!a+Y`, opcode 96; a; R173. -/
  | adcAAbsY (a : Addr)
  /-- `SBC A,!a+Y`, opcode B6; a; R174. -/
  | sbcAAbsY (a : Addr)
  /-- `MOV A,!a+Y`, opcode F6; a; R175. -/
  | movAAbsY (a : Addr)
  -- executor IndirectXRead (42_reads_indirect_word.md)
  /-- `OR A,(X)`, opcode 06; no operand; R176. -/
  | orAIndX
  /-- `AND A,(X)`, opcode 26; no operand; R177. -/
  | andAIndX
  /-- `EOR A,(X)`, opcode 46; no operand; R178. -/
  | eorAIndX
  /-- `CMP A,(X)`, opcode 66; no operand; R179. -/
  | cmpAIndX
  /-- `ADC A,(X)`, opcode 86; no operand; R180. -/
  | adcAIndX
  /-- `SBC A,(X)`, opcode A6; no operand; R181. -/
  | sbcAIndX
  /-- `MOV A,(X)`, opcode E6; no operand; R182. -/
  | movAIndX
  -- executor IndexedIndirectRead (42_reads_indirect_word.md)
  /-- `OR A,[d+X]`, opcode 07; d; R183. -/
  | orAIndDX (d : Byte)
  /-- `AND A,[d+X]`, opcode 27; d; R184. -/
  | andAIndDX (d : Byte)
  /-- `EOR A,[d+X]`, opcode 47; d; R185. -/
  | eorAIndDX (d : Byte)
  /-- `CMP A,[d+X]`, opcode 67; d; R186. -/
  | cmpAIndDX (d : Byte)
  /-- `ADC A,[d+X]`, opcode 87; d; R187. -/
  | adcAIndDX (d : Byte)
  /-- `SBC A,[d+X]`, opcode A7; d; R188. -/
  | sbcAIndDX (d : Byte)
  /-- `MOV A,[d+X]`, opcode E7; d; R189. -/
  | movAIndDX (d : Byte)
  -- executor IndirectIndexedRead (42_reads_indirect_word.md)
  /-- `OR A,[d]+Y`, opcode 17; d; R190. -/
  | orAIndDY (d : Byte)
  /-- `AND A,[d]+Y`, opcode 37; d; R191. -/
  | andAIndDY (d : Byte)
  /-- `EOR A,[d]+Y`, opcode 57; d; R192. -/
  | eorAIndDY (d : Byte)
  /-- `CMP A,[d]+Y`, opcode 77; d; R193. -/
  | cmpAIndDY (d : Byte)
  /-- `ADC A,[d]+Y`, opcode 97; d; R194. -/
  | adcAIndDY (d : Byte)
  /-- `SBC A,[d]+Y`, opcode B7; d; R195. -/
  | sbcAIndDY (d : Byte)
  /-- `MOV A,[d]+Y`, opcode F7; d; R196. -/
  | movAIndDY (d : Byte)
  -- executor IndirectXIncrementRead (42_reads_indirect_word.md)
  /-- `MOV A,(X)+`, opcode BF; no operand; R197. -/
  | movAIndXInc
  -- executor DirectReadWord (42_reads_indirect_word.md)
  /-- `ADDW YA,d`, opcode 7A; d; R198. -/
  | addwYaD (d : Byte)
  /-- `SUBW YA,d`, opcode 9A; d; R199. -/
  | subwYaD (d : Byte)
  /-- `MOVW YA,d`, opcode BA; d; R200. -/
  | movwYaD (d : Byte)
  -- executor DirectCompareWord (42_reads_indirect_word.md)
  /-- `CMPW YA,d`, opcode 5A; d; R201. -/
  | cmpwYaD (d : Byte)
  -- executor DirectWrite (43_writes_modifies.md)
  /-- `MOV d,A`, opcode C4; d; R202. -/
  | movDA (d : Byte)
  /-- `MOV d,X`, opcode D8; d; R203. -/
  | movDX (d : Byte)
  /-- `MOV d,Y`, opcode CB; d; R204. -/
  | movDY (d : Byte)
  -- executor AbsoluteWrite (43_writes_modifies.md)
  /-- `MOV !a,A`, opcode C5; a; R205. -/
  | movAbsA (a : Addr)
  /-- `MOV !a,X`, opcode C9; a; R206. -/
  | movAbsX (a : Addr)
  /-- `MOV !a,Y`, opcode CC; a; R207. -/
  | movAbsY (a : Addr)
  -- executor DirectIndexedWrite (43_writes_modifies.md)
  /-- `MOV d+X,A`, opcode D4; d; R208. -/
  | movDXA (d : Byte)
  /-- `MOV d+Y,X`, opcode D9; d; R209. -/
  | movDYX (d : Byte)
  /-- `MOV d+X,Y`, opcode DB; d; R210. -/
  | movDXY (d : Byte)
  -- executor AbsoluteIndexedWrite (43_writes_modifies.md)
  /-- `MOV !a+X,A`, opcode D5; a; R211. -/
  | movAbsXA (a : Addr)
  /-- `MOV !a+Y,A`, opcode D6; a; R212. -/
  | movAbsYA (a : Addr)
  -- executor IndirectXWrite (43_writes_modifies.md)
  /-- `MOV (X),A`, opcode C6; no operand; R213. -/
  | movIndXA
  -- executor IndexedIndirectWrite (43_writes_modifies.md)
  /-- `MOV [d+X],A`, opcode C7; d; R214. -/
  | movIndDXA (d : Byte)
  -- executor IndirectIndexedWrite (43_writes_modifies.md)
  /-- `MOV [d]+Y,A`, opcode D7; d; R215. -/
  | movIndDYA (d : Byte)
  -- executor IndirectXIncrementWrite (43_writes_modifies.md)
  /-- `MOV (X)+,A`, opcode AF; no operand; R216. -/
  | movIndXIncA
  -- executor DirectWriteWord (43_writes_modifies.md)
  /-- `MOVW d,YA`, opcode DA; d; R217. -/
  | movwDYa (d : Byte)
  -- executor DirectImmediateWrite (43_writes_modifies.md)
  /-- `MOV d,#i`, opcode 8F; encoded i, d; R218. -/
  | movDImm (d : Byte) (i : Byte)
  -- executor DirectModify (43_writes_modifies.md)
  /-- `ASL d`, opcode 0B; d; R219. -/
  | aslD (d : Byte)
  /-- `ROL d`, opcode 2B; d; R220. -/
  | rolD (d : Byte)
  /-- `LSR d`, opcode 4B; d; R221. -/
  | lsrD (d : Byte)
  /-- `ROR d`, opcode 6B; d; R222. -/
  | rorD (d : Byte)
  /-- `DEC d`, opcode 8B; d; R223. -/
  | decD (d : Byte)
  /-- `INC d`, opcode AB; d; R224. -/
  | incD (d : Byte)
  -- executor AbsoluteModify (43_writes_modifies.md)
  /-- `ASL !a`, opcode 0C; a; R225. -/
  | aslAbs (a : Addr)
  /-- `ROL !a`, opcode 2C; a; R226. -/
  | rolAbs (a : Addr)
  /-- `LSR !a`, opcode 4C; a; R227. -/
  | lsrAbs (a : Addr)
  /-- `ROR !a`, opcode 6C; a; R228. -/
  | rorAbs (a : Addr)
  /-- `DEC !a`, opcode 8C; a; R229. -/
  | decAbs (a : Addr)
  /-- `INC !a`, opcode AC; a; R230. -/
  | incAbs (a : Addr)
  -- executor DirectIndexedModify (43_writes_modifies.md)
  /-- `ASL d+X`, opcode 1B; d; R231. -/
  | aslDX (d : Byte)
  /-- `ROL d+X`, opcode 3B; d; R232. -/
  | rolDX (d : Byte)
  /-- `LSR d+X`, opcode 5B; d; R233. -/
  | lsrDX (d : Byte)
  /-- `ROR d+X`, opcode 7B; d; R234. -/
  | rorDX (d : Byte)
  /-- `DEC d+X`, opcode 9B; d; R235. -/
  | decDX (d : Byte)
  /-- `INC d+X`, opcode BB; d; R236. -/
  | incDX (d : Byte)
  -- executor DirectModifyWord (43_writes_modifies.md)
  /-- `DECW d`, opcode 1A; d; R237. -/
  | decwD (d : Byte)
  /-- `INCW d`, opcode 3A; d; R238. -/
  | incwD (d : Byte)
  -- executor DirectDirectModify (44_memory_to_memory.md)
  /-- `OR dd,ds`, opcode 09; encoded ds, dd; R239. -/
  | orDdDs (dd : Byte) (ds : Byte)
  /-- `AND dd,ds`, opcode 29; encoded ds, dd; R240. -/
  | andDdDs (dd : Byte) (ds : Byte)
  /-- `EOR dd,ds`, opcode 49; encoded ds, dd; R241. -/
  | eorDdDs (dd : Byte) (ds : Byte)
  /-- `ADC dd,ds`, opcode 89; encoded ds, dd; R242. -/
  | adcDdDs (dd : Byte) (ds : Byte)
  /-- `SBC dd,ds`, opcode A9; encoded ds, dd; R243. -/
  | sbcDdDs (dd : Byte) (ds : Byte)
  -- executor DirectDirectCompare (44_memory_to_memory.md)
  /-- `CMP dd,ds`, opcode 69; encoded ds, dd; R244. -/
  | cmpDdDs (dd : Byte) (ds : Byte)
  -- executor DirectDirectWrite (44_memory_to_memory.md)
  /-- `MOV dd,ds`, opcode FA; encoded ds, dd; R245. -/
  | movDdDs (dd : Byte) (ds : Byte)
  -- executor DirectImmediateModify (44_memory_to_memory.md)
  /-- `OR d,#i`, opcode 18; encoded i, d; R246. -/
  | orDImm (d : Byte) (i : Byte)
  /-- `AND d,#i`, opcode 38; encoded i, d; R247. -/
  | andDImm (d : Byte) (i : Byte)
  /-- `EOR d,#i`, opcode 58; encoded i, d; R248. -/
  | eorDImm (d : Byte) (i : Byte)
  /-- `ADC d,#i`, opcode 98; encoded i, d; R249. -/
  | adcDImm (d : Byte) (i : Byte)
  /-- `SBC d,#i`, opcode B8; encoded i, d; R250. -/
  | sbcDImm (d : Byte) (i : Byte)
  -- executor DirectImmediateCompare (44_memory_to_memory.md)
  /-- `CMP d,#i`, opcode 78; encoded i, d; R251. -/
  | cmpDImm (d : Byte) (i : Byte)
  -- executor IndirectXWriteIndirectY (44_memory_to_memory.md)
  /-- `OR (X),(Y)`, opcode 19; no operand; R252. -/
  | orIndXIndY
  /-- `AND (X),(Y)`, opcode 39; no operand; R253. -/
  | andIndXIndY
  /-- `EOR (X),(Y)`, opcode 59; no operand; R254. -/
  | eorIndXIndY
  /-- `ADC (X),(Y)`, opcode 99; no operand; R255. -/
  | adcIndXIndY
  /-- `SBC (X),(Y)`, opcode B9; no operand; R256. -/
  | sbcIndXIndY
  -- executor IndirectXCompareIndirectY (44_memory_to_memory.md)
  /-- `CMP (X),(Y)`, opcode 79; no operand; R257. -/
  | cmpIndXIndY
  -- executor AbsoluteBitModify (45_bit.md)
  /-- `OR1 C,m.b`, opcode 0A; a = m[12:0], b = m[15:13]; R258. -/
  | or1CMb (a : Addr) (b : Nat)
  /-- `OR1 C,/m.b`, opcode 2A; a = m[12:0], b = m[15:13]; R259. -/
  | or1CNotMb (a : Addr) (b : Nat)
  /-- `AND1 C,m.b`, opcode 4A; a = m[12:0], b = m[15:13]; R260. -/
  | and1CMb (a : Addr) (b : Nat)
  /-- `AND1 C,/m.b`, opcode 6A; a = m[12:0], b = m[15:13]; R261. -/
  | and1CNotMb (a : Addr) (b : Nat)
  /-- `EOR1 C,m.b`, opcode 8A; a = m[12:0], b = m[15:13]; R262. -/
  | eor1CMb (a : Addr) (b : Nat)
  /-- `MOV1 C,m.b`, opcode AA; a = m[12:0], b = m[15:13]; R263. -/
  | mov1CMb (a : Addr) (b : Nat)
  /-- `MOV1 m.b,C`, opcode CA; a = m[12:0], b = m[15:13]; R264. -/
  | mov1MbC (a : Addr) (b : Nat)
  /-- `NOT1 m.b`, opcode EA; a = m[12:0], b = m[15:13]; R265. -/
  | not1Mb (a : Addr) (b : Nat)
  -- executor AbsoluteBitSet (45_bit.md)
  /-- `SET1 d.b`, opcode 02 + 20 * b; b = op[7:5], d; R266. -/
  | set1Dbit (b : Nat) (d : Byte)
  /-- `CLR1 d.b`, opcode 12 + 20 * b; b = op[7:5], d; R267. -/
  | clr1Dbit (b : Nat) (d : Byte)
  -- executor TestSetBitsAbsolute (45_bit.md)
  /-- `TSET1 !a`, opcode 0E; a; R268. -/
  | tset1Abs (a : Addr)
  /-- `TCLR1 !a`, opcode 4E; a; R269. -/
  | tclr1Abs (a : Addr)
  -- executor BranchBit (45_bit.md)
  /-- `BBS d.b,r`, opcode 03 + 20 * b; b = op[7:5], d, r; R270. -/
  | bbsDbitRel (b : Nat) (d : Byte) (r : Byte)
  /-- `BBC d.b,r`, opcode 13 + 20 * b; b = op[7:5], d, r; R271. -/
  | bbcDbitRel (b : Nat) (d : Byte) (r : Byte)
  -- executor Branch (46_branch_jump.md)
  /-- `BPL r`, opcode 10; r; R273. -/
  | bplRel (r : Byte)
  /-- `BMI r`, opcode 30; r; R274. -/
  | bmiRel (r : Byte)
  /-- `BVC r`, opcode 50; r; R275. -/
  | bvcRel (r : Byte)
  /-- `BVS r`, opcode 70; r; R276. -/
  | bvsRel (r : Byte)
  /-- `BCC r`, opcode 90; r; R277. -/
  | bccRel (r : Byte)
  /-- `BCS r`, opcode B0; r; R278. -/
  | bcsRel (r : Byte)
  /-- `BNE r`, opcode D0; r; R279. -/
  | bneRel (r : Byte)
  /-- `BEQ r`, opcode F0; r; R280. -/
  | beqRel (r : Byte)
  /-- `BRA r`, opcode 2F; r; R281. -/
  | braRel (r : Byte)
  -- executor BranchNotDirect (46_branch_jump.md)
  /-- `CBNE d,r`, opcode 2E; d, r; R282. -/
  | cbneDRel (d : Byte) (r : Byte)
  -- executor BranchNotDirectIndexed (46_branch_jump.md)
  /-- `CBNE d+X,r`, opcode DE; d, r; R283. -/
  | cbneDXRel (d : Byte) (r : Byte)
  -- executor BranchNotDirectDecrement (46_branch_jump.md)
  /-- `DBNZ d,r`, opcode 6E; d, r; R284. -/
  | dbnzDRel (d : Byte) (r : Byte)
  -- executor BranchNotYDecrement (46_branch_jump.md)
  /-- `DBNZ Y,r`, opcode FE; r; R285. -/
  | dbnzYRel (r : Byte)
  -- executor JumpAbsolute (46_branch_jump.md)
  /-- `JMP !a`, opcode 5F; a; R286. -/
  | jmpAbs (a : Addr)
  -- executor JumpIndirectX (46_branch_jump.md)
  /-- `JMP [!a+X]`, opcode 1F; a; R287. -/
  | jmpIndAbsX (a : Addr)
  -- executor CallAbsolute (47_call_stack.md)
  /-- `CALL !a`, opcode 3F; a; R288. -/
  | callAbs (a : Addr)
  -- executor CallPage (47_call_stack.md)
  /-- `PCALL u`, opcode 4F; u; R289. -/
  | pcallU (u : Byte)
  -- executor CallTable (47_call_stack.md)
  /-- `TCALL v`, opcode 01 + 10 * v; v = op[7:4]; R290. -/
  | tcallV (v : Nat)
  -- executor Break (47_call_stack.md)
  /-- `BRK`, opcode 0F; no operand; R291. -/
  | brk
  -- executor ReturnSubroutine (47_call_stack.md)
  /-- `RET`, opcode 6F; no operand; R292. -/
  | ret
  -- executor ReturnInterrupt (47_call_stack.md)
  /-- `RETI`, opcode 7F; no operand; R293. -/
  | reti
  -- executor Push (47_call_stack.md)
  /-- `PUSH PSW`, opcode 0D; no operand; R294. -/
  | pushPsw
  /-- `PUSH A`, opcode 2D; no operand; R295. -/
  | pushA
  /-- `PUSH X`, opcode 4D; no operand; R296. -/
  | pushX
  /-- `PUSH Y`, opcode 6D; no operand; R297. -/
  | pushY
  -- executor Pull (47_call_stack.md)
  /-- `POP A`, opcode AE; no operand; R298. -/
  | popA
  /-- `POP X`, opcode CE; no operand; R299. -/
  | popX
  /-- `POP Y`, opcode EE; no operand; R300. -/
  | popY
  -- executor PullP (47_call_stack.md)
  /-- `POP PSW`, opcode 8E; no operand; R301. -/
  | popPsw
  -- executor NoOperation (48_fixed_operand.md)
  /-- `NOP`, opcode 00; no operand; R302. -/
  | nop
  -- executor Transfer (48_fixed_operand.md)
  /-- `MOV X,A`, opcode 5D; no operand; R303. -/
  | movXA
  /-- `MOV A,X`, opcode 7D; no operand; R304. -/
  | movAX
  /-- `MOV X,SP`, opcode 9D; no operand; R305. -/
  | movXSp
  /-- `MOV SP,X`, opcode BD; no operand; R306. -/
  | movSpX
  /-- `MOV A,Y`, opcode DD; no operand; R307. -/
  | movAY
  /-- `MOV Y,A`, opcode FD; no operand; R308. -/
  | movYA
  -- executor ImpliedModify (48_fixed_operand.md)
  /-- `ASL A`, opcode 1C; no operand; R309. -/
  | aslA
  /-- `ROL A`, opcode 3C; no operand; R310. -/
  | rolA
  /-- `LSR A`, opcode 5C; no operand; R311. -/
  | lsrA
  /-- `ROR A`, opcode 7C; no operand; R312. -/
  | rorA
  /-- `DEC A`, opcode 9C; no operand; R313. -/
  | decA
  /-- `INC A`, opcode BC; no operand; R314. -/
  | incA
  /-- `DEC X`, opcode 1D; no operand; R315. -/
  | decX
  /-- `INC X`, opcode 3D; no operand; R316. -/
  | incX
  /-- `DEC Y`, opcode DC; no operand; R317. -/
  | decY
  /-- `INC Y`, opcode FC; no operand; R318. -/
  | incY
  -- executor FlagSet (48_fixed_operand.md)
  /-- `CLRP`, opcode 20; no operand; R319. -/
  | clrp
  /-- `SETP`, opcode 40; no operand; R320. -/
  | setp
  /-- `CLRC`, opcode 60; no operand; R321. -/
  | clrc
  /-- `SETC`, opcode 80; no operand; R322. -/
  | setc
  /-- `EI`, opcode A0; no operand; R323. -/
  | ei
  /-- `DI`, opcode C0; no operand; R324. -/
  | di
  -- executor OverflowClear (48_fixed_operand.md)
  /-- `CLRV`, opcode E0; no operand; R325. -/
  | clrv
  -- executor ComplementCarry (48_fixed_operand.md)
  /-- `NOTC`, opcode ED; no operand; R326. -/
  | notc
  -- executor ExchangeNibble (48_fixed_operand.md)
  /-- `XCN A`, opcode 9F; no operand; R327. -/
  | xcnA
  -- executor DecimalAdjustAdd (48_fixed_operand.md)
  /-- `DAA A`, opcode DF; no operand; R328. -/
  | daaA
  -- executor DecimalAdjustSub (48_fixed_operand.md)
  /-- `DAS A`, opcode BE; no operand; R329. -/
  | dasA
  -- executor Multiply (48_fixed_operand.md)
  /-- `MUL YA`, opcode CF; no operand; R330. -/
  | mulYa
  -- executor Divide (48_fixed_operand.md)
  /-- `DIV YA,X`, opcode 9E; no operand; R331. -/
  | divYaX
  -- executor Wait (49_halt.md)
  /-- `SLEEP`, opcode EF; no operand; R332. -/
  | sleep
  -- executor Stop (49_halt.md)
  /-- `STOP`, opcode FF; no operand; R333. -/
  | stop
deriving DecidableEq, Repr

end Sys2Proof
end

