-- ==== Sys2Proof/WellFormed.lean ====
section
/-! DEFINITION. WellFormed.lean: the operand bounds that the encoding gives an instruction (30_encoding.md rules R74, R77).
Every other operand is a whole byte or a whole 16-bit address, and every value of it is legal (R78). -/

namespace Sys2Proof

/-- A bit index is three bits wide (R74, R77). -/
abbrev bitIndexOk (b : Nat) : Bool := decide (b < 8)

/-- A call-table index is four bits wide (R74). -/
abbrev tableIndexOk (v : Nat) : Bool := decide (v < 16)

/-- An `m.b` address is thirteen bits wide (R77). -/
abbrev bitAddressOk (a : Addr) : Bool := decide (a.toNat < 0x2000)

/-- The check, arm by arm: only the operands that are not whole bytes can be out of range. -/
def Instr.check : Instr → Bool
  | .orAImm _ => true
  | .andAImm _ => true
  | .eorAImm _ => true
  | .cmpAImm _ => true
  | .adcAImm _ => true
  | .sbcAImm _ => true
  | .movAImm _ => true
  | .movXImm _ => true
  | .movYImm _ => true
  | .cmpXImm _ => true
  | .cmpYImm _ => true
  | .orAD _ => true
  | .andAD _ => true
  | .eorAD _ => true
  | .cmpAD _ => true
  | .adcAD _ => true
  | .sbcAD _ => true
  | .movAD _ => true
  | .movXD _ => true
  | .movYD _ => true
  | .cmpXD _ => true
  | .cmpYD _ => true
  | .orAAbs _ => true
  | .andAAbs _ => true
  | .eorAAbs _ => true
  | .cmpAAbs _ => true
  | .adcAAbs _ => true
  | .sbcAAbs _ => true
  | .movAAbs _ => true
  | .movXAbs _ => true
  | .movYAbs _ => true
  | .cmpXAbs _ => true
  | .cmpYAbs _ => true
  | .orADX _ => true
  | .andADX _ => true
  | .eorADX _ => true
  | .cmpADX _ => true
  | .adcADX _ => true
  | .sbcADX _ => true
  | .movADX _ => true
  | .movXDY _ => true
  | .movYDX _ => true
  | .orAAbsX _ => true
  | .andAAbsX _ => true
  | .eorAAbsX _ => true
  | .cmpAAbsX _ => true
  | .adcAAbsX _ => true
  | .sbcAAbsX _ => true
  | .movAAbsX _ => true
  | .orAAbsY _ => true
  | .andAAbsY _ => true
  | .eorAAbsY _ => true
  | .cmpAAbsY _ => true
  | .adcAAbsY _ => true
  | .sbcAAbsY _ => true
  | .movAAbsY _ => true
  | .orAIndX => true
  | .andAIndX => true
  | .eorAIndX => true
  | .cmpAIndX => true
  | .adcAIndX => true
  | .sbcAIndX => true
  | .movAIndX => true
  | .orAIndDX _ => true
  | .andAIndDX _ => true
  | .eorAIndDX _ => true
  | .cmpAIndDX _ => true
  | .adcAIndDX _ => true
  | .sbcAIndDX _ => true
  | .movAIndDX _ => true
  | .orAIndDY _ => true
  | .andAIndDY _ => true
  | .eorAIndDY _ => true
  | .cmpAIndDY _ => true
  | .adcAIndDY _ => true
  | .sbcAIndDY _ => true
  | .movAIndDY _ => true
  | .movAIndXInc => true
  | .addwYaD _ => true
  | .subwYaD _ => true
  | .movwYaD _ => true
  | .cmpwYaD _ => true
  | .movDA _ => true
  | .movDX _ => true
  | .movDY _ => true
  | .movAbsA _ => true
  | .movAbsX _ => true
  | .movAbsY _ => true
  | .movDXA _ => true
  | .movDYX _ => true
  | .movDXY _ => true
  | .movAbsXA _ => true
  | .movAbsYA _ => true
  | .movIndXA => true
  | .movIndDXA _ => true
  | .movIndDYA _ => true
  | .movIndXIncA => true
  | .movwDYa _ => true
  | .movDImm _ _ => true
  | .aslD _ => true
  | .rolD _ => true
  | .lsrD _ => true
  | .rorD _ => true
  | .decD _ => true
  | .incD _ => true
  | .aslAbs _ => true
  | .rolAbs _ => true
  | .lsrAbs _ => true
  | .rorAbs _ => true
  | .decAbs _ => true
  | .incAbs _ => true
  | .aslDX _ => true
  | .rolDX _ => true
  | .lsrDX _ => true
  | .rorDX _ => true
  | .decDX _ => true
  | .incDX _ => true
  | .decwD _ => true
  | .incwD _ => true
  | .orDdDs _ _ => true
  | .andDdDs _ _ => true
  | .eorDdDs _ _ => true
  | .adcDdDs _ _ => true
  | .sbcDdDs _ _ => true
  | .cmpDdDs _ _ => true
  | .movDdDs _ _ => true
  | .orDImm _ _ => true
  | .andDImm _ _ => true
  | .eorDImm _ _ => true
  | .adcDImm _ _ => true
  | .sbcDImm _ _ => true
  | .cmpDImm _ _ => true
  | .orIndXIndY => true
  | .andIndXIndY => true
  | .eorIndXIndY => true
  | .adcIndXIndY => true
  | .sbcIndXIndY => true
  | .cmpIndXIndY => true
  | .or1CMb a b => bitAddressOk a && bitIndexOk b
  | .or1CNotMb a b => bitAddressOk a && bitIndexOk b
  | .and1CMb a b => bitAddressOk a && bitIndexOk b
  | .and1CNotMb a b => bitAddressOk a && bitIndexOk b
  | .eor1CMb a b => bitAddressOk a && bitIndexOk b
  | .mov1CMb a b => bitAddressOk a && bitIndexOk b
  | .mov1MbC a b => bitAddressOk a && bitIndexOk b
  | .not1Mb a b => bitAddressOk a && bitIndexOk b
  | .set1Dbit b _ => bitIndexOk b
  | .clr1Dbit b _ => bitIndexOk b
  | .tset1Abs _ => true
  | .tclr1Abs _ => true
  | .bbsDbitRel b _ _ => bitIndexOk b
  | .bbcDbitRel b _ _ => bitIndexOk b
  | .bplRel _ => true
  | .bmiRel _ => true
  | .bvcRel _ => true
  | .bvsRel _ => true
  | .bccRel _ => true
  | .bcsRel _ => true
  | .bneRel _ => true
  | .beqRel _ => true
  | .braRel _ => true
  | .cbneDRel _ _ => true
  | .cbneDXRel _ _ => true
  | .dbnzDRel _ _ => true
  | .dbnzYRel _ => true
  | .jmpAbs _ => true
  | .jmpIndAbsX _ => true
  | .callAbs _ => true
  | .pcallU _ => true
  | .tcallV v => tableIndexOk v
  | .brk => true
  | .ret => true
  | .reti => true
  | .pushPsw => true
  | .pushA => true
  | .pushX => true
  | .pushY => true
  | .popA => true
  | .popX => true
  | .popY => true
  | .popPsw => true
  | .nop => true
  | .movXA => true
  | .movAX => true
  | .movXSp => true
  | .movSpX => true
  | .movAY => true
  | .movYA => true
  | .aslA => true
  | .rolA => true
  | .lsrA => true
  | .rorA => true
  | .decA => true
  | .incA => true
  | .decX => true
  | .incX => true
  | .decY => true
  | .incY => true
  | .clrp => true
  | .setp => true
  | .clrc => true
  | .setc => true
  | .ei => true
  | .di => true
  | .clrv => true
  | .notc => true
  | .xcnA => true
  | .daaA => true
  | .dasA => true
  | .mulYa => true
  | .divYaX => true
  | .sleep => true
  | .stop => true

/-- An instruction whose every operand fits its field: the ones that have an encoding. -/
abbrev Instr.WellFormed (i : Instr) : Prop := i.check = true

end Sys2Proof
end

