-- ==== Sys2Proof/Decode.lean ====
section
/-! DEFINITION. Decode.lean: byte order, the decoder and the encoder.
The decoder is total on opcode bytes: the map of 30_encoding.md rule R73 fills all 256 cells and there is no reserved or
illegal encoding (R78, R401). The only thing it rejects, by name, is a byte list that ends inside an instruction.
The encoder is written from the formats of R71. -/

namespace Sys2Proof

/-! ### Byte order (20_memory.md rule R50): the lower address, fetched first, is bits 7:0. -/

/-- The 16-bit value of two bytes, low byte first (R50). -/
def wordOf (lo hi : Byte) : Addr := hi ++ lo

/-- Bits 7:0. -/
def loByte (w : Addr) : Byte := w.extractLsb' 0 8

/-- Bits 15:8. -/
def hiByte (w : Addr) : Byte := w.extractLsb' 8 8

/-! ### Operand fields (R74, R76, R77) -/

/-- `op[7:5]`, the bit index of `SET1`, `CLR1`, `BBS`, `BBC` (R74). -/
def opBit (op : Byte) : Nat := (op.extractLsb' 5 3).toNat

/-- `op[7:4]`, the index of `TCALL` (R74). -/
def opIndex (op : Byte) : Nat := (op.extractLsb' 4 4).toNat

/-- `m[12:0]`, the address of an `m.b` operand (R77). -/
def mAddr (m : Addr) : Addr := (m.extractLsb' 0 13).setWidth 16

/-- `m[15:13]`, the bit index of an `m.b` operand (R77). -/
def mBit (m : Addr) : Nat := (m.extractLsb' 13 3).toNat

/-- The 16-bit operand whose address is `a` and whose bit index is `b` (R77). -/
def mWord (a : Addr) (b : Nat) : Addr := BitVec.ofNat 3 b ++ a.extractLsb' 0 13

/-! ### The opcode map (R73), one function per row of the grid; the argument `c` is the column `op[3:0]`. -/

/-- Row 0x of the grid of R73. -/
def decodeRow0 (op b1 b2 : Byte) (c : Nat) : Instr :=
  match c with
  | 0 => .nop
  | 1 => .tcallV (opIndex op)
  | 2 => .set1Dbit (opBit op) b1
  | 3 => .bbsDbitRel (opBit op) b1 b2
  | 4 => .orAD b1
  | 5 => .orAAbs (wordOf b1 b2)
  | 6 => .orAIndX
  | 7 => .orAIndDX b1
  | 8 => .orAImm b1
  | 9 => .orDdDs b2 b1
  | 10 => .or1CMb (mAddr (wordOf b1 b2)) (mBit (wordOf b1 b2))
  | 11 => .aslD b1
  | 12 => .aslAbs (wordOf b1 b2)
  | 13 => .pushPsw
  | 14 => .tset1Abs (wordOf b1 b2)
  | _ => .brk

/-- Row 1x of the grid of R73. -/
def decodeRow1 (op b1 b2 : Byte) (c : Nat) : Instr :=
  match c with
  | 0 => .bplRel b1
  | 1 => .tcallV (opIndex op)
  | 2 => .clr1Dbit (opBit op) b1
  | 3 => .bbcDbitRel (opBit op) b1 b2
  | 4 => .orADX b1
  | 5 => .orAAbsX (wordOf b1 b2)
  | 6 => .orAAbsY (wordOf b1 b2)
  | 7 => .orAIndDY b1
  | 8 => .orDImm b2 b1
  | 9 => .orIndXIndY
  | 10 => .decwD b1
  | 11 => .aslDX b1
  | 12 => .aslA
  | 13 => .decX
  | 14 => .cmpXAbs (wordOf b1 b2)
  | _ => .jmpIndAbsX (wordOf b1 b2)

/-- Row 2x of the grid of R73. -/
def decodeRow2 (op b1 b2 : Byte) (c : Nat) : Instr :=
  match c with
  | 0 => .clrp
  | 1 => .tcallV (opIndex op)
  | 2 => .set1Dbit (opBit op) b1
  | 3 => .bbsDbitRel (opBit op) b1 b2
  | 4 => .andAD b1
  | 5 => .andAAbs (wordOf b1 b2)
  | 6 => .andAIndX
  | 7 => .andAIndDX b1
  | 8 => .andAImm b1
  | 9 => .andDdDs b2 b1
  | 10 => .or1CNotMb (mAddr (wordOf b1 b2)) (mBit (wordOf b1 b2))
  | 11 => .rolD b1
  | 12 => .rolAbs (wordOf b1 b2)
  | 13 => .pushA
  | 14 => .cbneDRel b1 b2
  | _ => .braRel b1

/-- Row 3x of the grid of R73. -/
def decodeRow3 (op b1 b2 : Byte) (c : Nat) : Instr :=
  match c with
  | 0 => .bmiRel b1
  | 1 => .tcallV (opIndex op)
  | 2 => .clr1Dbit (opBit op) b1
  | 3 => .bbcDbitRel (opBit op) b1 b2
  | 4 => .andADX b1
  | 5 => .andAAbsX (wordOf b1 b2)
  | 6 => .andAAbsY (wordOf b1 b2)
  | 7 => .andAIndDY b1
  | 8 => .andDImm b2 b1
  | 9 => .andIndXIndY
  | 10 => .incwD b1
  | 11 => .rolDX b1
  | 12 => .rolA
  | 13 => .incX
  | 14 => .cmpXD b1
  | _ => .callAbs (wordOf b1 b2)

/-- Row 4x of the grid of R73. -/
def decodeRow4 (op b1 b2 : Byte) (c : Nat) : Instr :=
  match c with
  | 0 => .setp
  | 1 => .tcallV (opIndex op)
  | 2 => .set1Dbit (opBit op) b1
  | 3 => .bbsDbitRel (opBit op) b1 b2
  | 4 => .eorAD b1
  | 5 => .eorAAbs (wordOf b1 b2)
  | 6 => .eorAIndX
  | 7 => .eorAIndDX b1
  | 8 => .eorAImm b1
  | 9 => .eorDdDs b2 b1
  | 10 => .and1CMb (mAddr (wordOf b1 b2)) (mBit (wordOf b1 b2))
  | 11 => .lsrD b1
  | 12 => .lsrAbs (wordOf b1 b2)
  | 13 => .pushX
  | 14 => .tclr1Abs (wordOf b1 b2)
  | _ => .pcallU b1

/-- Row 5x of the grid of R73. -/
def decodeRow5 (op b1 b2 : Byte) (c : Nat) : Instr :=
  match c with
  | 0 => .bvcRel b1
  | 1 => .tcallV (opIndex op)
  | 2 => .clr1Dbit (opBit op) b1
  | 3 => .bbcDbitRel (opBit op) b1 b2
  | 4 => .eorADX b1
  | 5 => .eorAAbsX (wordOf b1 b2)
  | 6 => .eorAAbsY (wordOf b1 b2)
  | 7 => .eorAIndDY b1
  | 8 => .eorDImm b2 b1
  | 9 => .eorIndXIndY
  | 10 => .cmpwYaD b1
  | 11 => .lsrDX b1
  | 12 => .lsrA
  | 13 => .movXA
  | 14 => .cmpYAbs (wordOf b1 b2)
  | _ => .jmpAbs (wordOf b1 b2)

/-- Row 6x of the grid of R73. -/
def decodeRow6 (op b1 b2 : Byte) (c : Nat) : Instr :=
  match c with
  | 0 => .clrc
  | 1 => .tcallV (opIndex op)
  | 2 => .set1Dbit (opBit op) b1
  | 3 => .bbsDbitRel (opBit op) b1 b2
  | 4 => .cmpAD b1
  | 5 => .cmpAAbs (wordOf b1 b2)
  | 6 => .cmpAIndX
  | 7 => .cmpAIndDX b1
  | 8 => .cmpAImm b1
  | 9 => .cmpDdDs b2 b1
  | 10 => .and1CNotMb (mAddr (wordOf b1 b2)) (mBit (wordOf b1 b2))
  | 11 => .rorD b1
  | 12 => .rorAbs (wordOf b1 b2)
  | 13 => .pushY
  | 14 => .dbnzDRel b1 b2
  | _ => .ret

/-- Row 7x of the grid of R73. -/
def decodeRow7 (op b1 b2 : Byte) (c : Nat) : Instr :=
  match c with
  | 0 => .bvsRel b1
  | 1 => .tcallV (opIndex op)
  | 2 => .clr1Dbit (opBit op) b1
  | 3 => .bbcDbitRel (opBit op) b1 b2
  | 4 => .cmpADX b1
  | 5 => .cmpAAbsX (wordOf b1 b2)
  | 6 => .cmpAAbsY (wordOf b1 b2)
  | 7 => .cmpAIndDY b1
  | 8 => .cmpDImm b2 b1
  | 9 => .cmpIndXIndY
  | 10 => .addwYaD b1
  | 11 => .rorDX b1
  | 12 => .rorA
  | 13 => .movAX
  | 14 => .cmpYD b1
  | _ => .reti

/-- Row 8x of the grid of R73. -/
def decodeRow8 (op b1 b2 : Byte) (c : Nat) : Instr :=
  match c with
  | 0 => .setc
  | 1 => .tcallV (opIndex op)
  | 2 => .set1Dbit (opBit op) b1
  | 3 => .bbsDbitRel (opBit op) b1 b2
  | 4 => .adcAD b1
  | 5 => .adcAAbs (wordOf b1 b2)
  | 6 => .adcAIndX
  | 7 => .adcAIndDX b1
  | 8 => .adcAImm b1
  | 9 => .adcDdDs b2 b1
  | 10 => .eor1CMb (mAddr (wordOf b1 b2)) (mBit (wordOf b1 b2))
  | 11 => .decD b1
  | 12 => .decAbs (wordOf b1 b2)
  | 13 => .movYImm b1
  | 14 => .popPsw
  | _ => .movDImm b2 b1

/-- Row 9x of the grid of R73. -/
def decodeRow9 (op b1 b2 : Byte) (c : Nat) : Instr :=
  match c with
  | 0 => .bccRel b1
  | 1 => .tcallV (opIndex op)
  | 2 => .clr1Dbit (opBit op) b1
  | 3 => .bbcDbitRel (opBit op) b1 b2
  | 4 => .adcADX b1
  | 5 => .adcAAbsX (wordOf b1 b2)
  | 6 => .adcAAbsY (wordOf b1 b2)
  | 7 => .adcAIndDY b1
  | 8 => .adcDImm b2 b1
  | 9 => .adcIndXIndY
  | 10 => .subwYaD b1
  | 11 => .decDX b1
  | 12 => .decA
  | 13 => .movXSp
  | 14 => .divYaX
  | _ => .xcnA

/-- Row Ax of the grid of R73. -/
def decodeRowA (op b1 b2 : Byte) (c : Nat) : Instr :=
  match c with
  | 0 => .ei
  | 1 => .tcallV (opIndex op)
  | 2 => .set1Dbit (opBit op) b1
  | 3 => .bbsDbitRel (opBit op) b1 b2
  | 4 => .sbcAD b1
  | 5 => .sbcAAbs (wordOf b1 b2)
  | 6 => .sbcAIndX
  | 7 => .sbcAIndDX b1
  | 8 => .sbcAImm b1
  | 9 => .sbcDdDs b2 b1
  | 10 => .mov1CMb (mAddr (wordOf b1 b2)) (mBit (wordOf b1 b2))
  | 11 => .incD b1
  | 12 => .incAbs (wordOf b1 b2)
  | 13 => .cmpYImm b1
  | 14 => .popA
  | _ => .movIndXIncA

/-- Row Bx of the grid of R73. -/
def decodeRowB (op b1 b2 : Byte) (c : Nat) : Instr :=
  match c with
  | 0 => .bcsRel b1
  | 1 => .tcallV (opIndex op)
  | 2 => .clr1Dbit (opBit op) b1
  | 3 => .bbcDbitRel (opBit op) b1 b2
  | 4 => .sbcADX b1
  | 5 => .sbcAAbsX (wordOf b1 b2)
  | 6 => .sbcAAbsY (wordOf b1 b2)
  | 7 => .sbcAIndDY b1
  | 8 => .sbcDImm b2 b1
  | 9 => .sbcIndXIndY
  | 10 => .movwYaD b1
  | 11 => .incDX b1
  | 12 => .incA
  | 13 => .movSpX
  | 14 => .dasA
  | _ => .movAIndXInc

/-- Row Cx of the grid of R73. -/
def decodeRowC (op b1 b2 : Byte) (c : Nat) : Instr :=
  match c with
  | 0 => .di
  | 1 => .tcallV (opIndex op)
  | 2 => .set1Dbit (opBit op) b1
  | 3 => .bbsDbitRel (opBit op) b1 b2
  | 4 => .movDA b1
  | 5 => .movAbsA (wordOf b1 b2)
  | 6 => .movIndXA
  | 7 => .movIndDXA b1
  | 8 => .cmpXImm b1
  | 9 => .movAbsX (wordOf b1 b2)
  | 10 => .mov1MbC (mAddr (wordOf b1 b2)) (mBit (wordOf b1 b2))
  | 11 => .movDY b1
  | 12 => .movAbsY (wordOf b1 b2)
  | 13 => .movXImm b1
  | 14 => .popX
  | _ => .mulYa

/-- Row Dx of the grid of R73. -/
def decodeRowD (op b1 b2 : Byte) (c : Nat) : Instr :=
  match c with
  | 0 => .bneRel b1
  | 1 => .tcallV (opIndex op)
  | 2 => .clr1Dbit (opBit op) b1
  | 3 => .bbcDbitRel (opBit op) b1 b2
  | 4 => .movDXA b1
  | 5 => .movAbsXA (wordOf b1 b2)
  | 6 => .movAbsYA (wordOf b1 b2)
  | 7 => .movIndDYA b1
  | 8 => .movDX b1
  | 9 => .movDYX b1
  | 10 => .movwDYa b1
  | 11 => .movDXY b1
  | 12 => .decY
  | 13 => .movAY
  | 14 => .cbneDXRel b1 b2
  | _ => .daaA

/-- Row Ex of the grid of R73. -/
def decodeRowE (op b1 b2 : Byte) (c : Nat) : Instr :=
  match c with
  | 0 => .clrv
  | 1 => .tcallV (opIndex op)
  | 2 => .set1Dbit (opBit op) b1
  | 3 => .bbsDbitRel (opBit op) b1 b2
  | 4 => .movAD b1
  | 5 => .movAAbs (wordOf b1 b2)
  | 6 => .movAIndX
  | 7 => .movAIndDX b1
  | 8 => .movAImm b1
  | 9 => .movXAbs (wordOf b1 b2)
  | 10 => .not1Mb (mAddr (wordOf b1 b2)) (mBit (wordOf b1 b2))
  | 11 => .movYD b1
  | 12 => .movYAbs (wordOf b1 b2)
  | 13 => .notc
  | 14 => .popY
  | _ => .sleep

/-- Row Fx of the grid of R73. -/
def decodeRowF (op b1 b2 : Byte) (c : Nat) : Instr :=
  match c with
  | 0 => .beqRel b1
  | 1 => .tcallV (opIndex op)
  | 2 => .clr1Dbit (opBit op) b1
  | 3 => .bbcDbitRel (opBit op) b1 b2
  | 4 => .movADX b1
  | 5 => .movAAbsX (wordOf b1 b2)
  | 6 => .movAAbsY (wordOf b1 b2)
  | 7 => .movAIndDY b1
  | 8 => .movXD b1
  | 9 => .movXDY b1
  | 10 => .movDdDs b2 b1
  | 11 => .movYDX b1
  | 12 => .incY
  | 13 => .movYA
  | 14 => .dbnzYRel b1
  | _ => .stop

/-- The instruction of an opcode byte and the two bytes after it: the whole map of R73, total. A shorter instruction
ignores the bytes it does not have. -/
def decodeOp (op b1 b2 : Byte) : Instr :=
  let c := (op.extractLsb' 0 4).toNat
  match (op.extractLsb' 4 4).toNat with
  | 0 => decodeRow0 op b1 b2 c
  | 1 => decodeRow1 op b1 b2 c
  | 2 => decodeRow2 op b1 b2 c
  | 3 => decodeRow3 op b1 b2 c
  | 4 => decodeRow4 op b1 b2 c
  | 5 => decodeRow5 op b1 b2 c
  | 6 => decodeRow6 op b1 b2 c
  | 7 => decodeRow7 op b1 b2 c
  | 8 => decodeRow8 op b1 b2 c
  | 9 => decodeRow9 op b1 b2 c
  | 10 => decodeRowA op b1 b2 c
  | 11 => decodeRowB op b1 b2 c
  | 12 => decodeRowC op b1 b2 c
  | 13 => decodeRowD op b1 b2 c
  | 14 => decodeRowE op b1 b2 c
  | _ => decodeRowF op b1 b2 c

/-- How many bytes the instruction has, its opcode included: the length column of R71. -/
def Instr.length : Instr → Nat
  | .orAImm _ => 2
  | .andAImm _ => 2
  | .eorAImm _ => 2
  | .cmpAImm _ => 2
  | .adcAImm _ => 2
  | .sbcAImm _ => 2
  | .movAImm _ => 2
  | .movXImm _ => 2
  | .movYImm _ => 2
  | .cmpXImm _ => 2
  | .cmpYImm _ => 2
  | .orAD _ => 2
  | .andAD _ => 2
  | .eorAD _ => 2
  | .cmpAD _ => 2
  | .adcAD _ => 2
  | .sbcAD _ => 2
  | .movAD _ => 2
  | .movXD _ => 2
  | .movYD _ => 2
  | .cmpXD _ => 2
  | .cmpYD _ => 2
  | .orAAbs _ => 3
  | .andAAbs _ => 3
  | .eorAAbs _ => 3
  | .cmpAAbs _ => 3
  | .adcAAbs _ => 3
  | .sbcAAbs _ => 3
  | .movAAbs _ => 3
  | .movXAbs _ => 3
  | .movYAbs _ => 3
  | .cmpXAbs _ => 3
  | .cmpYAbs _ => 3
  | .orADX _ => 2
  | .andADX _ => 2
  | .eorADX _ => 2
  | .cmpADX _ => 2
  | .adcADX _ => 2
  | .sbcADX _ => 2
  | .movADX _ => 2
  | .movXDY _ => 2
  | .movYDX _ => 2
  | .orAAbsX _ => 3
  | .andAAbsX _ => 3
  | .eorAAbsX _ => 3
  | .cmpAAbsX _ => 3
  | .adcAAbsX _ => 3
  | .sbcAAbsX _ => 3
  | .movAAbsX _ => 3
  | .orAAbsY _ => 3
  | .andAAbsY _ => 3
  | .eorAAbsY _ => 3
  | .cmpAAbsY _ => 3
  | .adcAAbsY _ => 3
  | .sbcAAbsY _ => 3
  | .movAAbsY _ => 3
  | .orAIndX => 1
  | .andAIndX => 1
  | .eorAIndX => 1
  | .cmpAIndX => 1
  | .adcAIndX => 1
  | .sbcAIndX => 1
  | .movAIndX => 1
  | .orAIndDX _ => 2
  | .andAIndDX _ => 2
  | .eorAIndDX _ => 2
  | .cmpAIndDX _ => 2
  | .adcAIndDX _ => 2
  | .sbcAIndDX _ => 2
  | .movAIndDX _ => 2
  | .orAIndDY _ => 2
  | .andAIndDY _ => 2
  | .eorAIndDY _ => 2
  | .cmpAIndDY _ => 2
  | .adcAIndDY _ => 2
  | .sbcAIndDY _ => 2
  | .movAIndDY _ => 2
  | .movAIndXInc => 1
  | .addwYaD _ => 2
  | .subwYaD _ => 2
  | .movwYaD _ => 2
  | .cmpwYaD _ => 2
  | .movDA _ => 2
  | .movDX _ => 2
  | .movDY _ => 2
  | .movAbsA _ => 3
  | .movAbsX _ => 3
  | .movAbsY _ => 3
  | .movDXA _ => 2
  | .movDYX _ => 2
  | .movDXY _ => 2
  | .movAbsXA _ => 3
  | .movAbsYA _ => 3
  | .movIndXA => 1
  | .movIndDXA _ => 2
  | .movIndDYA _ => 2
  | .movIndXIncA => 1
  | .movwDYa _ => 2
  | .movDImm _ _ => 3
  | .aslD _ => 2
  | .rolD _ => 2
  | .lsrD _ => 2
  | .rorD _ => 2
  | .decD _ => 2
  | .incD _ => 2
  | .aslAbs _ => 3
  | .rolAbs _ => 3
  | .lsrAbs _ => 3
  | .rorAbs _ => 3
  | .decAbs _ => 3
  | .incAbs _ => 3
  | .aslDX _ => 2
  | .rolDX _ => 2
  | .lsrDX _ => 2
  | .rorDX _ => 2
  | .decDX _ => 2
  | .incDX _ => 2
  | .decwD _ => 2
  | .incwD _ => 2
  | .orDdDs _ _ => 3
  | .andDdDs _ _ => 3
  | .eorDdDs _ _ => 3
  | .adcDdDs _ _ => 3
  | .sbcDdDs _ _ => 3
  | .cmpDdDs _ _ => 3
  | .movDdDs _ _ => 3
  | .orDImm _ _ => 3
  | .andDImm _ _ => 3
  | .eorDImm _ _ => 3
  | .adcDImm _ _ => 3
  | .sbcDImm _ _ => 3
  | .cmpDImm _ _ => 3
  | .orIndXIndY => 1
  | .andIndXIndY => 1
  | .eorIndXIndY => 1
  | .adcIndXIndY => 1
  | .sbcIndXIndY => 1
  | .cmpIndXIndY => 1
  | .or1CMb _ _ => 3
  | .or1CNotMb _ _ => 3
  | .and1CMb _ _ => 3
  | .and1CNotMb _ _ => 3
  | .eor1CMb _ _ => 3
  | .mov1CMb _ _ => 3
  | .mov1MbC _ _ => 3
  | .not1Mb _ _ => 3
  | .set1Dbit _ _ => 2
  | .clr1Dbit _ _ => 2
  | .tset1Abs _ => 3
  | .tclr1Abs _ => 3
  | .bbsDbitRel _ _ _ => 3
  | .bbcDbitRel _ _ _ => 3
  | .bplRel _ => 2
  | .bmiRel _ => 2
  | .bvcRel _ => 2
  | .bvsRel _ => 2
  | .bccRel _ => 2
  | .bcsRel _ => 2
  | .bneRel _ => 2
  | .beqRel _ => 2
  | .braRel _ => 2
  | .cbneDRel _ _ => 3
  | .cbneDXRel _ _ => 3
  | .dbnzDRel _ _ => 3
  | .dbnzYRel _ => 2
  | .jmpAbs _ => 3
  | .jmpIndAbsX _ => 3
  | .callAbs _ => 3
  | .pcallU _ => 2
  | .tcallV _ => 1
  | .brk => 1
  | .ret => 1
  | .reti => 1
  | .pushPsw => 1
  | .pushA => 1
  | .pushX => 1
  | .pushY => 1
  | .popA => 1
  | .popX => 1
  | .popY => 1
  | .popPsw => 1
  | .nop => 1
  | .movXA => 1
  | .movAX => 1
  | .movXSp => 1
  | .movSpX => 1
  | .movAY => 1
  | .movYA => 1
  | .aslA => 1
  | .rolA => 1
  | .lsrA => 1
  | .rorA => 1
  | .decA => 1
  | .incA => 1
  | .decX => 1
  | .incX => 1
  | .decY => 1
  | .incY => 1
  | .clrp => 1
  | .setp => 1
  | .clrc => 1
  | .setc => 1
  | .ei => 1
  | .di => 1
  | .clrv => 1
  | .notc => 1
  | .xcnA => 1
  | .daaA => 1
  | .dasA => 1
  | .mulYa => 1
  | .divYaX => 1
  | .sleep => 1
  | .stop => 1

/-- Why a byte list is not an instruction: it ends before the instruction does. No opcode is rejected (R78, R401). -/
inductive DecodeError where
  /-- No byte at all. -/
  | noOpcode
  /-- The list holds the opcode but not all of its operand bytes. -/
  | truncated (op : Byte)
deriving DecidableEq, Repr

/-- Read one instruction from the front of a byte list: the instruction and the bytes after it, or why there is none. -/
def decode : List Byte → Except DecodeError (Instr × List Byte)
  | [] => .error .noOpcode
  | op :: rest =>
    let i := decodeOp op (rest.getD 0 0) (rest.getD 1 0)
    if rest.length + 1 < i.length then .error (.truncated op) else .ok (i, rest.drop (i.length - 1))

/-! ### The encoder, from the formats of R71 and the opcode column of opcode_table.json -/

/-- The bytes of an instruction, the opcode first, in the order they stand in memory (R70, R71). -/
def encode : Instr → List Byte
  | .orAImm i => [0x08, i]
  | .andAImm i => [0x28, i]
  | .eorAImm i => [0x48, i]
  | .cmpAImm i => [0x68, i]
  | .adcAImm i => [0x88, i]
  | .sbcAImm i => [0xA8, i]
  | .movAImm i => [0xE8, i]
  | .movXImm i => [0xCD, i]
  | .movYImm i => [0x8D, i]
  | .cmpXImm i => [0xC8, i]
  | .cmpYImm i => [0xAD, i]
  | .orAD d => [0x04, d]
  | .andAD d => [0x24, d]
  | .eorAD d => [0x44, d]
  | .cmpAD d => [0x64, d]
  | .adcAD d => [0x84, d]
  | .sbcAD d => [0xA4, d]
  | .movAD d => [0xE4, d]
  | .movXD d => [0xF8, d]
  | .movYD d => [0xEB, d]
  | .cmpXD d => [0x3E, d]
  | .cmpYD d => [0x7E, d]
  | .orAAbs a => [0x05, loByte a, hiByte a]
  | .andAAbs a => [0x25, loByte a, hiByte a]
  | .eorAAbs a => [0x45, loByte a, hiByte a]
  | .cmpAAbs a => [0x65, loByte a, hiByte a]
  | .adcAAbs a => [0x85, loByte a, hiByte a]
  | .sbcAAbs a => [0xA5, loByte a, hiByte a]
  | .movAAbs a => [0xE5, loByte a, hiByte a]
  | .movXAbs a => [0xE9, loByte a, hiByte a]
  | .movYAbs a => [0xEC, loByte a, hiByte a]
  | .cmpXAbs a => [0x1E, loByte a, hiByte a]
  | .cmpYAbs a => [0x5E, loByte a, hiByte a]
  | .orADX d => [0x14, d]
  | .andADX d => [0x34, d]
  | .eorADX d => [0x54, d]
  | .cmpADX d => [0x74, d]
  | .adcADX d => [0x94, d]
  | .sbcADX d => [0xB4, d]
  | .movADX d => [0xF4, d]
  | .movXDY d => [0xF9, d]
  | .movYDX d => [0xFB, d]
  | .orAAbsX a => [0x15, loByte a, hiByte a]
  | .andAAbsX a => [0x35, loByte a, hiByte a]
  | .eorAAbsX a => [0x55, loByte a, hiByte a]
  | .cmpAAbsX a => [0x75, loByte a, hiByte a]
  | .adcAAbsX a => [0x95, loByte a, hiByte a]
  | .sbcAAbsX a => [0xB5, loByte a, hiByte a]
  | .movAAbsX a => [0xF5, loByte a, hiByte a]
  | .orAAbsY a => [0x16, loByte a, hiByte a]
  | .andAAbsY a => [0x36, loByte a, hiByte a]
  | .eorAAbsY a => [0x56, loByte a, hiByte a]
  | .cmpAAbsY a => [0x76, loByte a, hiByte a]
  | .adcAAbsY a => [0x96, loByte a, hiByte a]
  | .sbcAAbsY a => [0xB6, loByte a, hiByte a]
  | .movAAbsY a => [0xF6, loByte a, hiByte a]
  | .orAIndX => [0x06]
  | .andAIndX => [0x26]
  | .eorAIndX => [0x46]
  | .cmpAIndX => [0x66]
  | .adcAIndX => [0x86]
  | .sbcAIndX => [0xA6]
  | .movAIndX => [0xE6]
  | .orAIndDX d => [0x07, d]
  | .andAIndDX d => [0x27, d]
  | .eorAIndDX d => [0x47, d]
  | .cmpAIndDX d => [0x67, d]
  | .adcAIndDX d => [0x87, d]
  | .sbcAIndDX d => [0xA7, d]
  | .movAIndDX d => [0xE7, d]
  | .orAIndDY d => [0x17, d]
  | .andAIndDY d => [0x37, d]
  | .eorAIndDY d => [0x57, d]
  | .cmpAIndDY d => [0x77, d]
  | .adcAIndDY d => [0x97, d]
  | .sbcAIndDY d => [0xB7, d]
  | .movAIndDY d => [0xF7, d]
  | .movAIndXInc => [0xBF]
  | .addwYaD d => [0x7A, d]
  | .subwYaD d => [0x9A, d]
  | .movwYaD d => [0xBA, d]
  | .cmpwYaD d => [0x5A, d]
  | .movDA d => [0xC4, d]
  | .movDX d => [0xD8, d]
  | .movDY d => [0xCB, d]
  | .movAbsA a => [0xC5, loByte a, hiByte a]
  | .movAbsX a => [0xC9, loByte a, hiByte a]
  | .movAbsY a => [0xCC, loByte a, hiByte a]
  | .movDXA d => [0xD4, d]
  | .movDYX d => [0xD9, d]
  | .movDXY d => [0xDB, d]
  | .movAbsXA a => [0xD5, loByte a, hiByte a]
  | .movAbsYA a => [0xD6, loByte a, hiByte a]
  | .movIndXA => [0xC6]
  | .movIndDXA d => [0xC7, d]
  | .movIndDYA d => [0xD7, d]
  | .movIndXIncA => [0xAF]
  | .movwDYa d => [0xDA, d]
  | .movDImm d i => [0x8F, i, d]
  | .aslD d => [0x0B, d]
  | .rolD d => [0x2B, d]
  | .lsrD d => [0x4B, d]
  | .rorD d => [0x6B, d]
  | .decD d => [0x8B, d]
  | .incD d => [0xAB, d]
  | .aslAbs a => [0x0C, loByte a, hiByte a]
  | .rolAbs a => [0x2C, loByte a, hiByte a]
  | .lsrAbs a => [0x4C, loByte a, hiByte a]
  | .rorAbs a => [0x6C, loByte a, hiByte a]
  | .decAbs a => [0x8C, loByte a, hiByte a]
  | .incAbs a => [0xAC, loByte a, hiByte a]
  | .aslDX d => [0x1B, d]
  | .rolDX d => [0x3B, d]
  | .lsrDX d => [0x5B, d]
  | .rorDX d => [0x7B, d]
  | .decDX d => [0x9B, d]
  | .incDX d => [0xBB, d]
  | .decwD d => [0x1A, d]
  | .incwD d => [0x3A, d]
  | .orDdDs dd ds => [0x09, ds, dd]
  | .andDdDs dd ds => [0x29, ds, dd]
  | .eorDdDs dd ds => [0x49, ds, dd]
  | .adcDdDs dd ds => [0x89, ds, dd]
  | .sbcDdDs dd ds => [0xA9, ds, dd]
  | .cmpDdDs dd ds => [0x69, ds, dd]
  | .movDdDs dd ds => [0xFA, ds, dd]
  | .orDImm d i => [0x18, i, d]
  | .andDImm d i => [0x38, i, d]
  | .eorDImm d i => [0x58, i, d]
  | .adcDImm d i => [0x98, i, d]
  | .sbcDImm d i => [0xB8, i, d]
  | .cmpDImm d i => [0x78, i, d]
  | .orIndXIndY => [0x19]
  | .andIndXIndY => [0x39]
  | .eorIndXIndY => [0x59]
  | .adcIndXIndY => [0x99]
  | .sbcIndXIndY => [0xB9]
  | .cmpIndXIndY => [0x79]
  | .or1CMb a b => [0x0A, loByte (mWord a b), hiByte (mWord a b)]
  | .or1CNotMb a b => [0x2A, loByte (mWord a b), hiByte (mWord a b)]
  | .and1CMb a b => [0x4A, loByte (mWord a b), hiByte (mWord a b)]
  | .and1CNotMb a b => [0x6A, loByte (mWord a b), hiByte (mWord a b)]
  | .eor1CMb a b => [0x8A, loByte (mWord a b), hiByte (mWord a b)]
  | .mov1CMb a b => [0xAA, loByte (mWord a b), hiByte (mWord a b)]
  | .mov1MbC a b => [0xCA, loByte (mWord a b), hiByte (mWord a b)]
  | .not1Mb a b => [0xEA, loByte (mWord a b), hiByte (mWord a b)]
  | .set1Dbit b d => [BitVec.ofNat 8 (b * 0x20 + 0x02), d]
  | .clr1Dbit b d => [BitVec.ofNat 8 (b * 0x20 + 0x12), d]
  | .tset1Abs a => [0x0E, loByte a, hiByte a]
  | .tclr1Abs a => [0x4E, loByte a, hiByte a]
  | .bbsDbitRel b d r => [BitVec.ofNat 8 (b * 0x20 + 0x03), d, r]
  | .bbcDbitRel b d r => [BitVec.ofNat 8 (b * 0x20 + 0x13), d, r]
  | .bplRel r => [0x10, r]
  | .bmiRel r => [0x30, r]
  | .bvcRel r => [0x50, r]
  | .bvsRel r => [0x70, r]
  | .bccRel r => [0x90, r]
  | .bcsRel r => [0xB0, r]
  | .bneRel r => [0xD0, r]
  | .beqRel r => [0xF0, r]
  | .braRel r => [0x2F, r]
  | .cbneDRel d r => [0x2E, d, r]
  | .cbneDXRel d r => [0xDE, d, r]
  | .dbnzDRel d r => [0x6E, d, r]
  | .dbnzYRel r => [0xFE, r]
  | .jmpAbs a => [0x5F, loByte a, hiByte a]
  | .jmpIndAbsX a => [0x1F, loByte a, hiByte a]
  | .callAbs a => [0x3F, loByte a, hiByte a]
  | .pcallU u => [0x4F, u]
  | .tcallV v => [BitVec.ofNat 8 (v * 0x10 + 0x01)]
  | .brk => [0x0F]
  | .ret => [0x6F]
  | .reti => [0x7F]
  | .pushPsw => [0x0D]
  | .pushA => [0x2D]
  | .pushX => [0x4D]
  | .pushY => [0x6D]
  | .popA => [0xAE]
  | .popX => [0xCE]
  | .popY => [0xEE]
  | .popPsw => [0x8E]
  | .nop => [0x00]
  | .movXA => [0x5D]
  | .movAX => [0x7D]
  | .movXSp => [0x9D]
  | .movSpX => [0xBD]
  | .movAY => [0xDD]
  | .movYA => [0xFD]
  | .aslA => [0x1C]
  | .rolA => [0x3C]
  | .lsrA => [0x5C]
  | .rorA => [0x7C]
  | .decA => [0x9C]
  | .incA => [0xBC]
  | .decX => [0x1D]
  | .incX => [0x3D]
  | .decY => [0xDC]
  | .incY => [0xFC]
  | .clrp => [0x20]
  | .setp => [0x40]
  | .clrc => [0x60]
  | .setc => [0x80]
  | .ei => [0xA0]
  | .di => [0xC0]
  | .clrv => [0xE0]
  | .notc => [0xED]
  | .xcnA => [0x9F]
  | .daaA => [0xDF]
  | .dasA => [0xBE]
  | .mulYa => [0xCF]
  | .divYaX => [0x9E]
  | .sleep => [0xEF]
  | .stop => [0xFF]

/-! ### The host's numbering of an instruction's bits: bit 0 is the least significant bit of the first byte. -/

/-- Byte `k` of the number `w`. -/
def byteOfNat (w k : Nat) : Byte := BitVec.ofNat 8 (w >>> (8 * k))

/-- The number `w` cut to its low `nbits` bits: every bit above them is 0. -/
def cutBits (nbits w : Nat) : Nat := w % 2 ^ nbits

/-- The three bytes that hold an instruction whose bits are `w`, in memory order. -/
def tableBytes (nbits w : Nat) : List Byte :=
  [byteOfNat (cutBits nbits w) 0, byteOfNat (cutBits nbits w) 1, byteOfNat (cutBits nbits w) 2]

/-- What the decoder reads from the instruction whose bits are `w`. -/
def decodeTableWord (nbits w : Nat) : Option Instr :=
  match decode (tableBytes nbits w) with
  | .ok (i, _) => some i
  | .error _ => none

end Sys2Proof
end

