-- ==== Sys2Proof/Config.lean ====
section
/-! DEFINITION. Config.lean: the constants of the block that 00_scope.md rule R5 lists as parameters. Each has the value
the spec's numbered rules give it; where the source document leaves the value to the spec, the decision D<n> of
92_eei_decisions.md is named, and notes/assumptions/9.md says what that means. -/

namespace Sys2Proof.Config

/-- `STACK_PAGE`: the high byte of every stack address (R49, decision D1). -/
def stackPage : Byte := 0x01

/-- `PCALL_PAGE`: the high byte of the target of `PCALL u` (R289, decision D2). -/
def pcallPage : Byte := 0xFF

/-- `TCALL_BASE`: the address of call-table slot 0; slot v is at this address minus 2*v (R59, R290). -/
def tcallBase : Addr := 0xFFDE

/-- `BRK_VECTOR`: where `BRK` reads its target, low byte first (R59, R291, decision D3). -/
def brkVector : Addr := 0xFFDE

/-- `PSW_RESET`: the packed flag byte after `power()`, ZF set and the others clear (R30, R430, decision D4). -/
def pswReset : Byte := 0x02

/-- The stack pointer after `power()` (R30, R430). -/
def spReset : Byte := 0xEF

/-- The program counter after `power()`: there is no reset vector (R30, R431, decision D13). -/
def pcReset : Addr := 0x0000

/-- What an address of the reference port's RAM reads as when nothing is listed there (R62, decision D17).
DESIGN CHOICE of the model for a port the spec leaves open: notes/assumptions/2.md. -/
def unlistedByte : Byte := 0x00

/-- The answer to a `Sync()` query once the scripted answers are used up (95_test_vectors.md Conventions, decision D19).
DESIGN CHOICE: notes/assumptions/3.md. -/
def syncAfterScript : Bool := true

end Sys2Proof.Config
end

