-- ==== Sys2Proof/Machine/State.lean ====
section
/-! DEFINITION. Machine/State.lean: the state of the core as plain data, and the state after reset.
The core's own state is the closed record of 10_state.md rule R20 (58 bits). Beside it stands the port of 20_memory.md
rules R40 to R44, which the spec leaves open as a parameter (00_scope.md rule R5): it is held here as data, so that a
run can be written down and compared. notes/assumptions/1.md. -/

namespace Sys2Proof.Machine

/-- The eight flags, eight separate one-bit elements (R24, R26). `iflag` is the spec's IF (`if` is a Lean word). -/
structure Flags where
  cf : Bool
  zf : Bool
  iflag : Bool
  hf : Bool
  bf : Bool
  pf : Bool
  vf : Bool
  nf : Bool
deriving DecidableEq, Repr

/-- The three 8-bit data registers that carry an operand name in an executor's bound parameters (R22, R23). -/
inductive Reg where
  | a
  | x
  | y
deriving DecidableEq, Repr

/-- One port call as the environment observes it, its answer included (R41 to R44, R56). -/
inductive PortCall where
  /-- `read(a)`, answered with `v` (R41). -/
  | read (a : Addr) (v : Byte)
  /-- `write(a, v)` (R42). -/
  | write (a : Addr) (v : Byte)
  /-- `idle()` (R43). -/
  | idle
  /-- `synchronizing()`, answered with `b` (R44). -/
  | sync (b : Bool)
deriving DecidableEq, Repr

/-- What the core asks of the port: a port call without its answer (R40 to R44). -/
inductive Request where
  /-- Ask for the byte at `a` (R41). -/
  | read (a : Addr)
  /-- Hand the byte `v` to address `a` (R42). -/
  | write (a : Addr) (v : Byte)
  /-- Let one internal cycle pass (R43). -/
  | idle
  /-- Ask whether the halt loop may end (R44). -/
  | sync
deriving DecidableEq, Repr

/-- Memory behind the reference port: (address, byte) pairs, addresses strictly rising and below 65,536, no pair whose
byte is what an unlisted address reads as (R45, R62). -/
abbrev Memory := List Host.Cell

/-- The port, held as data. `mem` is the RAM of the reference port (R62). `answers` is what the environment answers to the
coming reads, one entry per read: `some v` is the answer `v` whatever the RAM holds (a device, another chip's store, R41,
R57), `none` and a used-up list leave the answer to the RAM. `syncs` is what it answers to the coming `Sync()` queries
(R44). `log` is every call made so far, the newest first (R56). -/
structure Port where
  mem : Memory
  answers : List (Option Byte)
  syncs : List Bool
  log : List PortCall
deriving DecidableEq, Repr

/-- The state: the record of R20 and the port. `sp` is the spec's S; `YA` is the view Y*256 + A and has no field (R22). -/
structure State where
  pc : Addr
  a : Byte
  y : Byte
  x : Byte
  sp : Byte
  flags : Flags
  wait : Bool
  stop : Bool
  port : Port
deriving DecidableEq, Repr

/-- Why a step can fault: never. The core raises no exception and has no error condition (60_exceptions.md rule R400), so
the type has no constructor and no meaning can answer with a fault. -/
inductive Fault where
deriving DecidableEq, Repr

/-- Why a step can be refused. -/
inductive Refusal where
  /-- Raised by an arm of `exec` whose instruction has no meaning yet, by its mnemonic; no arm of this model is so
  refused. Safe: the model stops where the hardware goes on. -/
  | notModelled (mnemonic : String)
deriving DecidableEq, Repr

/-- The outcome of a step of this machine. -/
abbrev Result := Host.Outcome State Fault Refusal

/-- The flags that `PSW_RESET` = 0x02 stands for: ZF set, all others clear (R30, R430). -/
def Flags.reset : Flags :=
  { cf := false, zf := true, iflag := false, hf := false, bf := false, pf := false, vf := false, nf := false }

/-- A port that has seen no call, whose RAM lists nothing and whose scripts are empty: the reference port of R62 in its
initial state. DESIGN CHOICE: notes/assumptions/4.md. -/
def Port.fresh : Port := { mem := [], answers := [], syncs := [], log := [] }

/-- The state right after `power()` (R30, R430, R431) with the reference port of R62 connected. -/
def State.reset : State :=
  { pc := Config.pcReset, a := 0x00, y := 0x00, x := 0x00, sp := Config.spReset, flags := Flags.reset,
    wait := false, stop := false, port := Port.fresh }

end Sys2Proof.Machine
end

