-- ==== Sys2Proof/Machine/Flags.lean ====
section
/-! DEFINITION. Machine/Flags.lean: the packed flag byte (10_state.md rule R24), the ALU algorithm set (40_alu.md rules R91
to R109) and the results and flags of the instructions that use no ALU algorithm (47, 48, 42, 43 and 45). An algorithm takes its
operands and the flags before it and answers its result and the flags after it; it touches nothing else (R90). -/

namespace Sys2Proof.Machine

/-! ### The packed byte (R24): CF is bit 0, NF is bit 7, every bit is real. -/

/-- `PSW` as a byte (R24). -/
def packPsw (f : Flags) : Byte :=
  BitVec.ofNat 8 (f.nf.toNat * 128 + f.vf.toNat * 64 + f.pf.toNat * 32 + f.bf.toNat * 16
    + f.hf.toNat * 8 + f.iflag.toNat * 4 + f.zf.toNat * 2 + f.cf.toNat)

/-- `PSW <- b` (R24). -/
def unpackPsw (b : Byte) : Flags :=
  { cf := b.getLsbD 0, zf := b.getLsbD 1, iflag := b.getLsbD 2, hf := b.getLsbD 3,
    bf := b.getLsbD 4, pf := b.getLsbD 5, vf := b.getLsbD 6, nf := b.getLsbD 7 }

/-! ### ZF and NF from a result -/

/-- ZF <- (r = 0), NF <- bit 7 of r: the pair that most algorithms write. -/
def setZN (r : Byte) (f : Flags) : Flags := { f with zf := decide (r = 0), nf := r.getLsbD 7 }

/-- The same over all sixteen bits (R107, R237, R238). -/
def setZN16 (r : Addr) (f : Flags) : Flags := { f with zf := decide (r = 0), nf := r.getLsbD 15 }

/-! ### Two-operand byte algorithms: `x` is the destination's old value, `y` the source value. -/

/-- R91. -/
def adc (x y : Byte) (f : Flags) : Byte × Flags :=
  let sum := x.toNat + y.toNat + f.cf.toNat
  let r := BitVec.ofNat 8 sum
  (r, { f with
    cf := decide (sum > 0xFF)
    zf := decide (sum % 256 = 0)
    hf := (x ^^^ y ^^^ r).getLsbD 4
    vf := decide ((~~~(x ^^^ y)) &&& (x ^^^ r) &&& 0x80 ≠ 0)
    nf := r.getLsbD 7 })

/-- R92: `ADC(x, y xor 0xFF)`. -/
def sbc (x y : Byte) (f : Flags) : Byte × Flags := adc x (y ^^^ 0xFF) f

/-- R93: the result is `x` itself; HF and VF stay. -/
def cmp (x y : Byte) (f : Flags) : Byte × Flags :=
  let d := x - y
  (x, { f with cf := decide (y.toNat ≤ x.toNat), zf := decide (d = 0), nf := d.getLsbD 7 })

/-- R94. -/
def and (x y : Byte) (f : Flags) : Byte × Flags := (x &&& y, setZN (x &&& y) f)

/-- R95. -/
def or (x y : Byte) (f : Flags) : Byte × Flags := (x ||| y, setZN (x ||| y) f)

/-- R96. -/
def eor (x y : Byte) (f : Flags) : Byte × Flags := (x ^^^ y, setZN (x ^^^ y) f)

/-- R97: `x` is ignored. -/
def ld (_x y : Byte) (f : Flags) : Byte × Flags := (y, setZN y f)

/-- The selector of a two-operand byte algorithm, fixed by the opcode (R90). -/
inductive Alu2 where
  | adc
  | sbc
  | cmp
  | and
  | or
  | eor
  | ld
deriving DecidableEq, Repr

/-- The algorithm a selector names. -/
def alu2 : Alu2 → Byte → Byte → Flags → Byte × Flags
  | .adc => adc
  | .sbc => sbc
  | .cmp => cmp
  | .and => and
  | .or => or
  | .eor => eor
  | .ld => ld

/-! ### One-operand byte algorithms -/

/-- R98. -/
def asl (x : Byte) (f : Flags) : Byte × Flags :=
  let r := x <<< 1
  (r, setZN r { f with cf := x.getLsbD 7 })

/-- R99. -/
def lsr (x : Byte) (f : Flags) : Byte × Flags :=
  let r := x >>> 1
  (r, setZN r { f with cf := x.getLsbD 0 })

/-- R100: the old carry enters bit 0. -/
def rol (x : Byte) (f : Flags) : Byte × Flags :=
  let r := BitVec.ofNat 8 (x.toNat * 2 % 256 + f.cf.toNat)
  (r, setZN r { f with cf := x.getLsbD 7 })

/-- R101: the old carry enters bit 7. -/
def ror (x : Byte) (f : Flags) : Byte × Flags :=
  let r := BitVec.ofNat 8 (f.cf.toNat * 128 + x.toNat / 2)
  (r, setZN r { f with cf := x.getLsbD 0 })

/-- R102: no carry interaction. -/
def inc (x : Byte) (f : Flags) : Byte × Flags := (x + 1, setZN (x + 1) f)

/-- R103: no carry interaction. -/
def dec (x : Byte) (f : Flags) : Byte × Flags := (x - 1, setZN (x - 1) f)

/-- The selector of a one-operand byte algorithm (R90). -/
inductive Alu1 where
  | asl
  | rol
  | lsr
  | ror
  | dec
  | inc
deriving DecidableEq, Repr

/-- The algorithm a selector names. -/
def alu1 : Alu1 → Byte → Flags → Byte × Flags
  | .asl => asl
  | .rol => rol
  | .lsr => lsr
  | .ror => ror
  | .dec => dec
  | .inc => inc

/-! ### Word algorithms: composed of two byte calls, ZF taken again from all sixteen bits. -/

/-- R104: CF <- 0 before the low byte; HF, VF and NF are what the second `ADC` leaves. -/
def adw (x y : Addr) (f : Flags) : Addr × Flags :=
  let lo := adc (loByte x) (loByte y) { f with cf := false }
  let hi := adc (hiByte x) (hiByte y) lo.2
  let r := wordOf lo.1 hi.1
  (r, { hi.2 with zf := decide (r = 0) })

/-- R105: CF <- 1 before the low byte. -/
def sbw (x y : Addr) (f : Flags) : Addr × Flags :=
  let lo := sbc (loByte x) (loByte y) { f with cf := true }
  let hi := sbc (hiByte x) (hiByte y) lo.2
  let r := wordOf lo.1 hi.1
  (r, { hi.2 with zf := decide (r = 0) })

/-- R106: the 16-bit analogue of `CMP`; HF and VF stay. -/
def cpw (x y : Addr) (f : Flags) : Addr × Flags :=
  let d := x - y
  (x, { f with cf := decide (y.toNat ≤ x.toNat), zf := decide (d = 0), nf := d.getLsbD 15 })

/-- R107: `x` is ignored. -/
def ldw (_x y : Addr) (f : Flags) : Addr × Flags := (y, setZN16 y f)

/-- The selector of a word algorithm (R90). -/
inductive AluW where
  | adw
  | sbw
  | cpw
  | ldw
deriving DecidableEq, Repr

/-- The algorithm a selector names. -/
def aluW : AluW → Addr → Addr → Flags → Addr × Flags
  | .adw => adw
  | .sbw => sbw
  | .cpw => cpw
  | .ldw => ldw

/-! ### Multiply and divide: the answer is (A, Y, flags). -/

/-- R108: unsigned product, low half to A, high half to Y; ZF and NF from the high half. -/
def mul (y a : Byte) (f : Flags) : Byte × Byte × Flags :=
  let p := y.toNat * a.toNat
  let hi := BitVec.ofNat 8 (p / 256)
  (BitVec.ofNat 8 (p % 256), hi, setZN hi f)

/-- R109: quotient to A, remainder to Y, the quirk path when Y >= 2*X; HF and VF from the operands before the division,
ZF and NF from the quotient, CF untouched. `X` = 0 takes the quirk path. -/
def div (a y x : Byte) (f : Flags) : Byte × Byte × Flags :=
  let ya := y.toNat * 256 + a.toNat
  let f1 := { f with hf := decide (x.toNat % 16 ≤ y.toNat % 16), vf := decide (x.toNat ≤ y.toNat) }
  if y.toNat < 2 * x.toNat then
    let q := BitVec.ofNat 8 (ya / x.toNat % 256)
    (q, BitVec.ofNat 8 (ya % x.toNat), setZN q f1)
  else
    let t := ya - x.toNat * 512
    let q := BitVec.ofNat 8 (255 - t / (256 - x.toNat))
    (q, BitVec.ofNat 8 (x.toNat + t % (256 - x.toNat)), setZN q f1)

/-! ### Results and flags that are no ALU algorithm -/

/-- R328, `DAA A`: the high correction first, the low one tested on the corrected value. -/
def daa (a : Byte) (f : Flags) : Byte × Flags :=
  let high := f.cf || decide (a.toNat > 0x99)
  let a1 := if high then a + 0x60 else a
  let a2 := if f.hf || decide (a1.toNat % 16 > 9) then a1 + 0x06 else a1
  (a2, setZN a2 { f with cf := if high then true else f.cf })

/-- R329, `DAS A`: CF = 0 and HF = 0 mean that a borrow occurred. -/
def das (a : Byte) (f : Flags) : Byte × Flags :=
  let high := !f.cf || decide (a.toNat > 0x99)
  let a1 := if high then a - 0x60 else a
  let a2 := if !f.hf || decide (a1.toNat % 16 > 9) then a1 - 0x06 else a1
  (a2, setZN a2 { f with cf := if high then false else f.cf })

/-- R327, `XCN A`: the two halves of the byte change places; ZF and NF from the result. -/
def xcn (a : Byte) (f : Flags) : Byte × Flags :=
  let r := a.extractLsb' 0 4 ++ a.extractLsb' 4 4
  (r, setZN r f)

/-- Replace bit `b` of a byte by `c` and leave the others (`v[b] <- c`, R6). -/
def setBit (v : Byte) (b : Nat) (c : Bool) : Byte :=
  if c then v ||| ((1 : Byte) <<< b) else v &&& ~~~((1 : Byte) <<< b)

end Sys2Proof.Machine
end

