-- ==== Sys2Proof/Machine/Ops.lean ====
section
/-! DEFINITION. Machine/Ops.lean: the named operations over memory, the port and the registers, from 20_memory.md; taking
`BRK` and returning from it (60_exceptions.md rules R402 and R406); the halt loop (49_halt.md rule R334).
A rule's pseudocode (00_scope.md rule R6) is written as a `Prog`: a sequence of port calls and register changes, top to
bottom, nothing in parallel. -/

namespace Sys2Proof.Machine

/-! ### The reference port's RAM (R45, R62) -/

/-- The byte at address `n`: the listed one, else what an unlisted address reads as (R62). -/
def Memory.readByte : Memory → Nat → Byte
  | [], _ => Config.unlistedByte
  | (k, w) :: rest, n => if k = n then w else Memory.readByte rest n

/-- `mem[n] <- v` (R62), keeping the canonical form: addresses rising, no cell that equals an unlisted one. -/
def Memory.writeByte : Memory → Nat → Byte → Memory
  | [], n, v => if v = Config.unlistedByte then [] else [(n, v)]
  | (k, w) :: rest, n, v =>
    if n < k then (if v = Config.unlistedByte then (k, w) :: rest else (n, v) :: (k, w) :: rest)
    else if n = k then (if v = Config.unlistedByte then rest else (n, v) :: rest)
    else (k, w) :: Memory.writeByte rest n v

/-- The canonical form from address `lo` on. -/
def Memory.wfFrom : Nat → Memory → Bool
  | _, [] => true
  | lo, (k, w) :: rest =>
    decide (lo ≤ k) && decide (k < 65536) && decide (w ≠ Config.unlistedByte) && Memory.wfFrom (k + 1) rest

/-- The canonical form: addresses strictly rising, all below 65,536 (R45), no cell that an unlisted address would read as.
Equal memories are then equal lists. -/
def Memory.wf (m : Memory) : Bool := Memory.wfFrom 0 m

/-! ### The port (R40 to R44) -/

/-- What the next `read(a)` answers: the environment's scripted answer, or else the RAM's byte (R41, R62). -/
def Port.answer (p : Port) (a : Addr) : Byte :=
  match p.answers with
  | some v :: _ => v
  | _ => p.mem.readByte a.toNat

/-- What the next `synchronizing()` answers (R44). -/
def Port.syncAnswer (p : Port) : Bool := p.syncs.headD Config.syncAfterScript

/-- One port call: it is logged with its answer, a read or a query uses up one scripted answer, a write reaches the RAM. -/
def Port.perform (p : Port) : Request → Port
  | .read a => { p with answers := p.answers.tail, log := .read a (p.answer a) :: p.log }
  | .write a v => { p with mem := p.mem.writeByte a.toNat v, log := .write a v :: p.log }
  | .idle => { p with log := .idle :: p.log }
  | .sync => { p with syncs := p.syncs.tail, log := .sync p.syncAnswer :: p.log }

/-- Port calls in order, the first of the list first (R56). -/
def Port.performAll (p : Port) : List Request → Port
  | [] => p
  | r :: rest => Port.performAll (p.perform r) rest

/-- What the read number `n` from now (0 is the next one) answers if it reads `a` and nothing is written before it. -/
def Port.upcoming (p : Port) : Nat → Addr → Byte
  | 0, a => p.answer a
  | n + 1, a => Port.upcoming { p with answers := p.answers.tail } n a

/-! ### Programs -/

/-- A piece of a rule's pseudocode: it changes the state and yields a value. -/
abbrev Prog (α : Type) := StateM State α

/-- The outcome of a whole rule: the core never faults and refuses nothing (R400). -/
def finish (p : Prog Unit) (s : State) : Result := .next (p s).2

/-- The state as it is at this point of the rule. -/
def look : Prog State := fun s => (s, s)

/-- A register change, `x <- e` (R6). -/
def change (f : State → State) : Prog Unit := fun s => ((), f s)

/-- `MemRead(a, 1)` (R41). -/
def memRead (a : Addr) : Prog Byte := fun s => (s.port.answer a, { s with port := s.port.perform (.read a) })

/-- `MemWrite(a, 1, v)` (R42). -/
def memWrite (a : Addr) (v : Byte) : Prog Unit := fun s => ((), { s with port := s.port.perform (.write a v) })

/-- `Idle()` (R43). -/
def idle : Prog Unit := fun s => ((), { s with port := s.port.perform .idle })

/-- `Sync()` (R44). -/
def sync : Prog Bool := fun s => (s.port.syncAnswer, { s with port := s.port.perform .sync })

/-- `Idle()` `n` times in a row: `n` port calls. -/
def idles (n : Nat) : Prog Unit := fun s => ((), { s with port := s.port.performAll (List.replicate n .idle) })

/-- `Fetch()`: read the byte at PC, then PC <- (PC + 1) mod 65536 (R46). -/
def fetch : Prog Byte := fun s =>
  (s.port.answer s.pc, { s with pc := s.pc + 1, port := s.port.perform (.read s.pc) })

/-- `Fetch()` of an operand byte whose value the decoder has already put into the instruction: the port call is made and
PC moves (R46). notes/assumptions/6.md says why the value is the same. -/
def fetchOperand : Prog Unit := do
  let _ ← fetch

/-- The dummy read of a one-byte instruction: `_ <- MemRead(PC, 1)`, PC not advanced (R21, R55). -/
def dummyRead : Prog Unit := do
  let s ← look
  let _ ← memRead s.pc

/-! ### Registers -/

/-- The register an executor names. -/
def State.reg (s : State) : Reg → Byte
  | .a => s.a
  | .x => s.x
  | .y => s.y

/-- Write the register an executor names. -/
def State.setReg (s : State) : Reg → Byte → State
  | .a, v => { s with a := v }
  | .x, v => { s with x := v }
  | .y, v => { s with y := v }

/-- `YA`, the view Y*256 + A (R22). -/
def State.ya (s : State) : Addr := wordOf s.a s.y

/-- `YA <- w`: A <- w[7:0], Y <- w[15:8] (R6, R22). -/
def State.setYa (s : State) (w : Addr) : State := { s with a := loByte w, y := hiByte w }

/-- `rd <- f(rd, v)` with the algorithm's flags (R90). -/
def State.applyAlu2 (s : State) (f : Alu2) (r : Reg) (v : Byte) : State :=
  ({ s with flags := (alu2 f (s.reg r) v s.flags).2 }).setReg r (alu2 f (s.reg r) v s.flags).1

/-- `rd <- f(rd)` with the algorithm's flags (R90). -/
def State.applyAlu1 (s : State) (f : Alu1) (r : Reg) : State :=
  ({ s with flags := (alu1 f (s.reg r) s.flags).2 }).setReg r (alu1 f (s.reg r) s.flags).1

/-- `YA <- f(YA, w)` with the algorithm's flags (R104 to R107). -/
def State.applyAluW (s : State) (f : AluW) (w : Addr) : State :=
  ({ s with flags := (aluW f s.ya w s.flags).2 }).setYa (aluW f s.ya w s.flags).1

/-- `YA <- MUL(Y, A)` with the algorithm's flags (R108, R330). -/
def State.applyMul (s : State) : State :=
  { s with
    a := (mul s.y s.a s.flags).1
    y := (mul s.y s.a s.flags).2.1
    flags := (mul s.y s.a s.flags).2.2 }

/-- `(A, Y) <- DIV(YA, X)` with the algorithm's flags (R109, R331). -/
def State.applyDiv (s : State) : State :=
  { s with
    a := (div s.a s.y s.x s.flags).1
    y := (div s.a s.y s.x s.flags).2.1
    flags := (div s.a s.y s.x s.flags).2.2 }

/-! ### The direct page (R47) -/

/-- `DP(d)`: the page-select flag is the high byte (R47). -/
def State.dp (s : State) (d : Byte) : Addr := wordOf d (if s.flags.pf then 0x01 else 0x00)

/-- `Load(d)` (R47). -/
def load (d : Byte) : Prog Byte := do
  let s ← look
  memRead (s.dp d)

/-- `Store(d, v)` (R47). -/
def store (d v : Byte) : Prog Unit := do
  let s ← look
  memWrite (s.dp d) v

/-! ### The stack (R49) -/

/-- The stack address: the fixed page and S (R49). -/
def State.stackAddr (s : State) : Addr := wordOf s.sp Config.stackPage

/-- `Push(v)`: write, then S <- (S - 1) mod 256 (R49). -/
def push (v : Byte) : Prog Unit := do
  let s ← look
  memWrite s.stackAddr v
  change fun t => { t with sp := t.sp - 1 }

/-- `Pull()`: S <- (S + 1) mod 256, then read (R49). -/
def pull : Prog Byte := do
  change fun t => { t with sp := t.sp + 1 }
  let s ← look
  memRead s.stackAddr

/-- Push PC, high byte first (R50). PC is the address of the next instruction. -/
def pushPc : Prog Unit := do
  let s ← look
  push (hiByte s.pc)
  push (loByte s.pc)

/-- Pull PC, low byte first (R50). -/
def pullPc : Prog Unit := do
  let lo ← pull
  let hi ← pull
  change fun t => { t with pc := wordOf lo hi }

/-! ### Control transfer -/

/-- Read a 16-bit jump target: the byte at `t` is bits 7:0, the byte after it bits 15:8 (R50, R52), and go there. -/
def jumpThrough (t : Addr) : Prog Unit := do
  let lo ← memRead t
  let hi ← memRead (t + 1)
  change fun s => { s with pc := wordOf lo hi }

/-- PC <- (PC + sext_16(r)) mod 65536 (R76). -/
def State.branchTarget (s : State) (r : Byte) : Addr := s.pc + r.signExtend 16

/-- The tail of every branch: two idle calls and the jump when it is taken, nothing when it is not (R272). -/
def branchIf (taken : Bool) (r : Byte) : Prog Unit := do
  if taken then
    idle
    idle
    change fun s => { s with pc := s.branchTarget r }

/-! ### `BRK` and `RETI`: the only entry of the kind the core has, and its return (R402, R406) -/

/-- Take the break, after the dummy read: PC of the next instruction (high, low) and the packed flags as they are go to
the stack, one idle, then PC is read from `BRK_VECTOR`, IF <- 0 and BF <- 1 (R291, R402). -/
def enterBreak : Prog Unit := do
  pushPc
  let s ← look
  push (packPsw s.flags)
  idle
  jumpThrough Config.brkVector
  change fun t => { t with flags := { t.flags with iflag := false, bf := true } }

/-- `PSW <- Pull()`: all eight flags (R293, R301). -/
def pullPsw : Prog Unit := do
  let b ← pull
  change fun t => { t with flags := unpackPsw b }

/-- Return from the break, after the dummy read and the idle: the packed flags, PC low, PC high (R293, R406). -/
def returnFromBreak : Prog Unit := do
  pullPsw
  pullPc

/-! ### The halt loop (R334) -/

/-- `while Sync() = false do { _ <- MemRead(PC,1); Idle() }`, for at most `n` scripted answers: when they are used up the
port answers true (notes/assumptions/3.md), so the loop ends. -/
def haltLoopFor : Nat → Prog Unit
  | 0 => do
    let _ ← sync
  | n + 1 => do
    let done ← sync
    if done then
      pure ()
    else
      dummyRead
      idle
      haltLoopFor n

/-- `HaltLoop()` (R334): the bound is the number of scripted answers, which the loop cannot exceed. -/
def haltLoop : Prog Unit := do
  let s ← look
  haltLoopFor s.port.syncs.length

/-! ### The instruction at PC (R46, R58, R72)

The operand bytes are read when the rule says so, one port call each; these definitions say which byte each of those
reads will answer, so that the decoder can be given the whole instruction before it runs. -/

/-- After the opcode fetch: how many reads come before the fetch of the first operand byte. `DBNZ Y,r` alone has one, the
dummy read of the displacement (R285). -/
def readsBeforeOperand1 (op : Byte) : Nat := if op = 0xFE then 1 else 0

/-- How many reads come before the fetch of the second operand byte: the first operand, and the data read that `dd,ds`,
`CBNE`, `DBNZ d` and `BBS`/`BBC` make between the two (R239 to R245, R282 to R284, R270, R271). -/
def readsBeforeOperand2 : Instr → Nat
  | .orDdDs _ _ | .andDdDs _ _ | .eorDdDs _ _ | .adcDdDs _ _ | .sbcDdDs _ _ | .cmpDdDs _ _ | .movDdDs _ _ => 2
  | .cbneDRel _ _ | .cbneDXRel _ _ | .dbnzDRel _ _ | .bbsDbitRel _ _ _ | .bbcDbitRel _ _ _ => 2
  | _ => 1

/-- The port when the second operand byte is about to be fetched, for `DBNZ d,r`: the one instruction that writes before
its last fetch (R284; notes/assumptions/7.md). `s` is the state after the opcode fetch. -/
def portAtDbnzDisplacement (d : Byte) (s : State) : Port :=
  let p := s.port.performAll [.read s.pc, .read (s.dp d)]
  p.perform (.write (s.dp d) (s.port.upcoming 1 (s.dp d) - 1))

/-- The opcode and the two operand bytes that the fetches of this step will be answered with. `s` is the state at the
start of the step; the bytes that the instruction does not fetch are not looked at by the decoder. -/
def fetchedBytes (s : State) : List Byte :=
  let op := s.port.answer s.pc
  let t := (fetch s).2
  let b1 := t.port.upcoming (readsBeforeOperand1 op) t.pc
  let b2 :=
    if op = 0x6E then (portAtDbnzDisplacement b1 t).answer (t.pc + 1)
    else t.port.upcoming (readsBeforeOperand2 (decodeOp op b1 0)) (t.pc + 1)
  [op, b1, b2]

/-- The instruction this step runs: the decoder applied to those bytes (R72, R73). -/
def fetchedInstr (s : State) : Instr :=
  decodeOp ((fetchedBytes s).getD 0 0) ((fetchedBytes s).getD 1 0) ((fetchedBytes s).getD 2 0)

/-! ### Loading an instruction from outside -/

/-- Store bytes at `a`, `a + 1`, ... (mod 65536). -/
def Memory.writeBytes (m : Memory) (a : Addr) : List Byte → Memory
  | [] => m
  | v :: rest => Memory.writeBytes (m.writeByte a.toNat v) (a + 1) rest

end Sys2Proof.Machine
end

