-- ==== Sys2Proof/Machine/Operands.lean ====
section
/-! DEFINITION. Machine/Operands.lean: the operand forms of 30_encoding.md rule R80 and the executor shapes built on them
(41 to 48). A form is the port calls that find the operand and the address they find; an executor is what is done there. -/

namespace Sys2Proof.Machine

/-! ### Operand forms that name one byte of memory -/

/-- An operand form. -/
inductive Mode where
  /-- `d`. -/
  | direct (d : Byte)
  /-- `d+X`, `d+Y`. -/
  | directIndexed (d : Byte) (r : Reg)
  /-- `!a`. -/
  | absolute (a : Addr)
  /-- `!a+X`, `!a+Y`. -/
  | absoluteIndexed (a : Addr) (r : Reg)
  /-- `(X)`. -/
  | indirectX
  /-- `[d+X]`. -/
  | indexedIndirect (d : Byte)
  /-- `[d]+Y`. -/
  | indirectIndexed (d : Byte)
deriving DecidableEq, Repr

/-- The address of `!a+X` or `!a+Y`: the index is zero-extended, the sum is modulo 65,536 (R52). -/
def State.absIndexed (s : State) (a : Addr) (r : Reg) : Addr := a + (s.reg r).setWidth 16

/-- Read a 16-bit pointer or word in the direct page: offset `d`, then `(d + 1) mod 256` (R50, R51). -/
def loadPointer (d : Byte) : Prog Addr := do
  let lo ← load d
  let hi ← load (d + 1)
  pure (wordOf lo hi)

/-- Fetch the operand bytes of a form and find its address, call by call (R131, R142, R153, R162, R176, R183, R190; R47,
R48, R51, R52). -/
def effectiveAddress : Mode → Prog Addr
  | .direct d => do
    fetchOperand
    let s ← look
    pure (s.dp d)
  | .directIndexed d r => do
    fetchOperand
    idle
    let s ← look
    pure (s.dp (d + s.reg r))
  | .absolute a => do
    fetchOperand
    fetchOperand
    pure a
  | .absoluteIndexed a r => do
    fetchOperand
    fetchOperand
    idle
    let s ← look
    pure (s.absIndexed a r)
  | .indirectX => do
    dummyRead
    let s ← look
    pure (s.dp s.x)
  | .indexedIndirect d => do
    fetchOperand
    idle
    let s ← look
    loadPointer (d + s.x)
  | .indirectIndexed d => do
    fetchOperand
    let p ← loadPointer d
    idle
    let s ← look
    pure (s.absIndexed p .y)

/-! ### Executors over one operand form -/

/-- `ImmediateRead`: `rd <- f(rd, i)`. -/
def immediateRead (f : Alu2) (r : Reg) (i : Byte) : Prog Unit := do
  fetchOperand
  change fun s => s.applyAlu2 f r i

/-- The read executors: `rd <- f(rd, MemRead(address))`. -/
def readInto (f : Alu2) (r : Reg) (m : Mode) : Prog Unit := do
  let a ← effectiveAddress m
  let v ← memRead a
  change fun s => s.applyAlu2 f r v

/-- The store executors: a dummy read of the destination, then the write; no flag (R55, R97). -/
def storeFrom (r : Reg) (m : Mode) : Prog Unit := do
  let a ← effectiveAddress m
  let _ ← memRead a
  let s ← look
  memWrite a (s.reg r)

/-- The modify executors: read, apply, write back. -/
def modifyAt (f : Alu1) (m : Mode) : Prog Unit := do
  let a ← effectiveAddress m
  let v ← memRead a
  let s ← look
  memWrite a (alu1 f v s.flags).1
  change fun t => { t with flags := (alu1 f v s.flags).2 }

/-! ### Words in the direct page -/

/-- `DirectReadWord`: low byte, an idle, high byte, then `YA <- f(YA, w)` (R198 to R200). -/
def readWord (f : AluW) (d : Byte) : Prog Unit := do
  fetchOperand
  let lo ← load d
  idle
  let hi ← load (d + 1)
  change fun s => s.applyAluW f (wordOf lo hi)

/-- `DirectModifyWord`: the low byte is written before the high byte is read; `delta` is +1 or -1 modulo 65,536 (R237, R238). -/
def modifyWord (delta : Addr) (d : Byte) : Prog Unit := do
  fetchOperand
  let lo ← load d
  let w := lo.setWidth 16 + delta
  store d (loByte w)
  let hi ← load (d + 1)
  let w2 := w + wordOf 0 hi
  store (d + 1) (hiByte w2)
  change fun s => { s with flags := setZN16 w2 s.flags }

/-! ### Memory to memory -/

/-- Fetch `ds`, load it, fetch `dd`: the source is read before the destination offset is fetched (R239). -/
def loadSource (ds : Byte) : Prog Byte := do
  fetchOperand
  let v ← load ds
  fetchOperand
  pure v

/-- `DirectDirectModify`: `mem[dd] <- f(mem[dd], mem[ds])` (R239 to R243). -/
def modifyDirectDirect (f : Alu2) (dd ds : Byte) : Prog Unit := do
  let rhs ← loadSource ds
  let lhs ← load dd
  let s ← look
  store dd (alu2 f lhs rhs s.flags).1
  change fun t => { t with flags := (alu2 f lhs rhs s.flags).2 }

/-- `DirectImmediateModify`: `mem[d] <- f(mem[d], i)` (R246 to R250). -/
def modifyDirectImmediate (f : Alu2) (d i : Byte) : Prog Unit := do
  fetchOperand
  fetchOperand
  let v ← load d
  let s ← look
  store d (alu2 f v i s.flags).1
  change fun t => { t with flags := (alu2 f v i s.flags).2 }

/-- The dummy read, then the byte at DP(Y), then the byte at DP(X): (right operand, left operand) (R252). -/
def loadIndirectPair : Prog (Byte × Byte) := do
  dummyRead
  let s ← look
  let rhs ← load s.y
  let lhs ← load s.x
  pure (rhs, lhs)

/-- `IndirectXWriteIndirectY`: `mem[DP(X)] <- f(mem[DP(X)], mem[DP(Y)])` (R252 to R256). -/
def modifyIndirect (f : Alu2) : Prog Unit := do
  let p ← loadIndirectPair
  let s ← look
  store s.x (alu2 f p.2 p.1 s.flags).1
  change fun t => { t with flags := (alu2 f p.2 p.1 s.flags).2 }

/-- A compare of two memory bytes: `CMP`'s flags, nothing stored, an idle in place of the write (R244, R251, R257). -/
def compareOnly (lhs rhs : Byte) : Prog Unit := do
  change fun s => { s with flags := (cmp lhs rhs s.flags).2 }
  idle

/-! ### Bits -/

/-- Fetch the two bytes of `m` and read the byte at `a` (R258 to R265). -/
def loadBitByte (a : Addr) : Prog Byte := do
  fetchOperand
  fetchOperand
  memRead a

/-- CF <- f(CF). -/
def changeCarry (f : Bool → Bool) : Prog Unit :=
  change fun s => { s with flags := { s.flags with cf := f s.flags.cf } }

/-- `AbsoluteBitSet`: bit `b` of the byte at DP(d) becomes `c`; the whole byte is written back (R266, R267). -/
def writeDirectBit (b : Nat) (c : Bool) (d : Byte) : Prog Unit := do
  fetchOperand
  let v ← load d
  store d (setBit v b c)

/-- `TestSetBitsAbsolute`: ZF and NF of A - v, a second read of the address, then the write computed from the first read
(R268, R269). -/
def testAndModify (f : Byte → Byte → Byte) (a : Addr) : Prog Unit := do
  fetchOperand
  fetchOperand
  let v ← memRead a
  change fun s => { s with flags := setZN (s.a - v) s.flags }
  let _ ← memRead a
  let s ← look
  memWrite a (f v s.a)

/-- `BranchBit`: branch if bit `b` of the byte at DP(d) is `c` (R270, R271). -/
def branchOnBit (b : Nat) (c : Bool) (d r : Byte) : Prog Unit := do
  fetchOperand
  let v ← load d
  idle
  fetchOperand
  branchIf (v.getLsbD b == c) r

/-! ### Branches -/

/-- `Branch`: the displacement is fetched whether or not the branch is taken (R272 to R281). -/
def branchOn (cond : Flags → Bool) (r : Byte) : Prog Unit := do
  fetchOperand
  let s ← look
  branchIf (cond s.flags) r

/-! ### One-byte instructions -/

/-- The shape of every one-byte register instruction: the dummy read, `n` idle calls, the change (R302 to R331). -/
def oneByte (n : Nat) (f : State → State) : Prog Unit := do
  dummyRead
  idles n
  change f

/-- A flag change. -/
def State.mapFlags (s : State) (f : Flags → Flags) : State := { s with flags := f s.flags }

/-- A transfer into a register that sets ZF and NF (R303 to R308, but for `MOV SP,X`). -/
def State.transfer (s : State) (r : Reg) (v : Byte) : State :=
  ({ s with flags := setZN v s.flags }).setReg r v

/-- `Push`: the dummy read, the push, the idle after it (R294 to R297). -/
def pushOf (v : State → Byte) : Prog Unit := do
  dummyRead
  let s ← look
  push (v s)
  idle

/-- `Pull`: the dummy read, the idle, then the pull; no flag (R298 to R300). -/
def popInto (r : Reg) : Prog Unit := do
  dummyRead
  idle
  let v ← pull
  change fun s => s.setReg r v

/-- The address of call-table slot `v` (R59, R290). -/
def tableSlot (v : Nat) : Addr := Config.tcallBase - BitVec.ofNat 16 (2 * v)

end Sys2Proof.Machine
end

