-- ==== Sys2Proof/Machine/BitOps.lean ====
section
/-! DEFINITION. Machine/BitOps.lean: the meanings of the instructions of spec/45_bit.md:
the bit-indexed executors and the bit test-and-set.
Each meaning is the rule's pseudocode from call 2 on; call 1, the opcode fetch, is the step's (R72). No meaning faults or
refuses (R400). -/

namespace Sys2Proof.Machine

/-! ### `AbsoluteBitModify` -/

/-- `OR1 C,m.b` (R258). -/
def execOr1CMb (a : Addr) (b : Nat) (s : State) : Result := finish (do
    let v ← loadBitByte a
    idle
    changeCarry fun c => c || v.getLsbD b) s

/-- `OR1 C,/m.b` (R259). -/
def execOr1CNotMb (a : Addr) (b : Nat) (s : State) : Result := finish (do
    let v ← loadBitByte a
    idle
    changeCarry fun c => c || !v.getLsbD b) s

/-- `AND1 C,m.b` (R260). -/
def execAnd1CMb (a : Addr) (b : Nat) (s : State) : Result := finish (do
    let v ← loadBitByte a
    changeCarry fun c => c && v.getLsbD b) s

/-- `AND1 C,/m.b` (R261). -/
def execAnd1CNotMb (a : Addr) (b : Nat) (s : State) : Result := finish (do
    let v ← loadBitByte a
    changeCarry fun c => c && !v.getLsbD b) s

/-- `EOR1 C,m.b` (R262). -/
def execEor1CMb (a : Addr) (b : Nat) (s : State) : Result := finish (do
    let v ← loadBitByte a
    idle
    changeCarry fun c => c ^^ v.getLsbD b) s

/-- `MOV1 C,m.b` (R263). -/
def execMov1CMb (a : Addr) (b : Nat) (s : State) : Result := finish (do
    let v ← loadBitByte a
    changeCarry fun _ => v.getLsbD b) s

/-- `MOV1 m.b,C` (R264). -/
def execMov1MbC (a : Addr) (b : Nat) (s : State) : Result := finish (do
    let v ← loadBitByte a
    idle
    let s ← look
    memWrite a (setBit v b s.flags.cf)) s

/-- `NOT1 m.b` (R265). -/
def execNot1Mb (a : Addr) (b : Nat) (s : State) : Result := finish (do
    let v ← loadBitByte a
    memWrite a (setBit v b (!v.getLsbD b))) s

/-! ### `AbsoluteBitSet` -/

/-- `SET1 d.b` (R266). -/
def execSet1Dbit (b : Nat) (d : Byte) (s : State) : Result :=
  finish (writeDirectBit b true d) s

/-- `CLR1 d.b` (R267). -/
def execClr1Dbit (b : Nat) (d : Byte) (s : State) : Result :=
  finish (writeDirectBit b false d) s

/-! ### `TestSetBitsAbsolute` -/

/-- `TSET1 !a` (R268). -/
def execTset1Abs (a : Addr) (s : State) : Result :=
  finish (testAndModify (fun v acc => v ||| acc) a) s

/-- `TCLR1 !a` (R269). -/
def execTclr1Abs (a : Addr) (s : State) : Result :=
  finish (testAndModify (fun v acc => v &&& ~~~acc) a) s

/-! ### `BranchBit` -/

/-- `BBS d.b,r` (R270). -/
def execBbsDbitRel (b : Nat) (d : Byte) (r : Byte) (s : State) : Result :=
  finish (branchOnBit b true d r) s

/-- `BBC d.b,r` (R271). -/
def execBbcDbitRel (b : Nat) (d : Byte) (r : Byte) (s : State) : Result :=
  finish (branchOnBit b false d r) s

end Sys2Proof.Machine
end

