-- ==== Sys2Proof/Machine/BranchJump.lean ====
section
/-! DEFINITION. Machine/BranchJump.lean: the meanings of the instructions of spec/46_branch_jump.md:
the branches and jumps.
Each meaning is the rule's pseudocode from call 2 on; call 1, the opcode fetch, is the step's (R72). No meaning faults or
refuses (R400). -/

namespace Sys2Proof.Machine

/-! ### `Branch` -/

/-- `BPL r` (R273). -/
def execBplRel (r : Byte) (s : State) : Result :=
  finish (branchOn (fun f => !f.nf) r) s

/-- `BMI r` (R274). -/
def execBmiRel (r : Byte) (s : State) : Result :=
  finish (branchOn (fun f => f.nf) r) s

/-- `BVC r` (R275). -/
def execBvcRel (r : Byte) (s : State) : Result :=
  finish (branchOn (fun f => !f.vf) r) s

/-- `BVS r` (R276). -/
def execBvsRel (r : Byte) (s : State) : Result :=
  finish (branchOn (fun f => f.vf) r) s

/-- `BCC r` (R277). -/
def execBccRel (r : Byte) (s : State) : Result :=
  finish (branchOn (fun f => !f.cf) r) s

/-- `BCS r` (R278). -/
def execBcsRel (r : Byte) (s : State) : Result :=
  finish (branchOn (fun f => f.cf) r) s

/-- `BNE r` (R279). -/
def execBneRel (r : Byte) (s : State) : Result :=
  finish (branchOn (fun f => !f.zf) r) s

/-- `BEQ r` (R280). -/
def execBeqRel (r : Byte) (s : State) : Result :=
  finish (branchOn (fun f => f.zf) r) s

/-- `BRA r` (R281). -/
def execBraRel (r : Byte) (s : State) : Result :=
  finish (branchOn (fun _ => true) r) s

/-! ### `BranchNotDirect` -/

/-- `CBNE d,r` (R282). -/
def execCbneDRel (d : Byte) (r : Byte) (s : State) : Result := finish (do
    fetchOperand
    let v ← load d
    idle
    fetchOperand
    let s ← look
    branchIf (s.a != v) r) s

/-! ### `BranchNotDirectIndexed` -/

/-- `CBNE d+X,r` (R283). -/
def execCbneDXRel (d : Byte) (r : Byte) (s : State) : Result := finish (do
    let t ← effectiveAddress (.directIndexed d .x)
    let v ← memRead t
    idle
    fetchOperand
    let s ← look
    branchIf (s.a != v) r) s

/-! ### `BranchNotDirectDecrement` -/

/-- `DBNZ d,r` (R284). -/
def execDbnzDRel (d : Byte) (r : Byte) (s : State) : Result := finish (do
    fetchOperand
    let old ← load d
    let v := old - 1
    store d v
    fetchOperand
    branchIf (v != 0) r) s

/-! ### `BranchNotYDecrement` -/

/-- `DBNZ Y,r` (R285). -/
def execDbnzYRel (r : Byte) (s : State) : Result := finish (do
    dummyRead
    idle
    fetchOperand
    change fun s => { s with y := s.y - 1 }
    let s ← look
    branchIf (s.y != 0) r) s

/-! ### `JumpAbsolute` -/

/-- `JMP !a` (R286). -/
def execJmpAbs (a : Addr) (s : State) : Result := finish (do
    fetchOperand
    fetchOperand
    change fun s => { s with pc := a }) s

/-! ### `JumpIndirectX` -/

/-- `JMP [!a+X]` (R287). -/
def execJmpIndAbsX (a : Addr) (s : State) : Result := finish (do
    let t ← effectiveAddress (.absoluteIndexed a .x)
    jumpThrough t) s

end Sys2Proof.Machine
end

