-- ==== Sys2Proof/Machine/CallStack.lean ====
section
/-! DEFINITION. Machine/CallStack.lean: the meanings of the instructions of spec/47_call_stack.md:
calls, returns, BRK, RETI, pushes and pulls.
Each meaning is the rule's pseudocode from call 2 on; call 1, the opcode fetch, is the step's (R72). No meaning faults or
refuses (R400). -/

namespace Sys2Proof.Machine

/-! ### `CallAbsolute` -/

/-- `CALL !a` (R288). -/
def execCallAbs (a : Addr) (s : State) : Result := finish (do
    fetchOperand
    fetchOperand
    idle
    pushPc
    idle
    idle
    change fun s => { s with pc := a }) s

/-! ### `CallPage` -/

/-- `PCALL u` (R289). -/
def execPcallU (u : Byte) (s : State) : Result := finish (do
    fetchOperand
    idle
    pushPc
    idle
    change fun s => { s with pc := wordOf u Config.pcallPage }) s

/-! ### `CallTable` -/

/-- `TCALL v` (R290). -/
def execTcallV (v : Nat) (s : State) : Result := finish (do
    dummyRead
    idle
    pushPc
    idle
    jumpThrough (tableSlot v)) s

/-! ### `Break` -/

/-- `BRK` (R291). -/
def execBrk (s : State) : Result := finish (do
    dummyRead
    enterBreak) s

/-! ### `ReturnSubroutine` -/

/-- `RET` (R292). -/
def execRet (s : State) : Result := finish (do
    dummyRead
    idle
    pullPc) s

/-! ### `ReturnInterrupt` -/

/-- `RETI` (R293). -/
def execReti (s : State) : Result := finish (do
    dummyRead
    idle
    returnFromBreak) s

/-! ### `Push` -/

/-- `PUSH PSW` (R294). -/
def execPushPsw (s : State) : Result :=
  finish (pushOf fun s => packPsw s.flags) s

/-- `PUSH A` (R295). -/
def execPushA (s : State) : Result :=
  finish (pushOf fun s => s.a) s

/-- `PUSH X` (R296). -/
def execPushX (s : State) : Result :=
  finish (pushOf fun s => s.x) s

/-- `PUSH Y` (R297). -/
def execPushY (s : State) : Result :=
  finish (pushOf fun s => s.y) s

/-! ### `Pull` -/

/-- `POP A` (R298). -/
def execPopA (s : State) : Result :=
  finish (popInto .a) s

/-- `POP X` (R299). -/
def execPopX (s : State) : Result :=
  finish (popInto .x) s

/-- `POP Y` (R300). -/
def execPopY (s : State) : Result :=
  finish (popInto .y) s

/-! ### `PullP` -/

/-- `POP PSW` (R301). -/
def execPopPsw (s : State) : Result := finish (do
    dummyRead
    idle
    pullPsw) s

end Sys2Proof.Machine
end

