-- ==== Sys2Proof/Machine/FixedOperand.lean ====
section
/-! DEFINITION. Machine/FixedOperand.lean: the meanings of the instructions of spec/48_fixed_operand.md:
the instructions without a memory operand.
Each meaning is the rule's pseudocode from call 2 on; call 1, the opcode fetch, is the step's (R72). No meaning faults or
refuses (R400). -/

namespace Sys2Proof.Machine

/-! ### `NoOperation` -/

/-- `NOP` (R302). -/
def execNop (s : State) : Result :=
  finish (oneByte 0 fun s => s) s

/-! ### `Transfer` -/

/-- `MOV X,A` (R303). -/
def execMovXA (s : State) : Result :=
  finish (oneByte 0 fun s => s.transfer .x s.a) s

/-- `MOV A,X` (R304). -/
def execMovAX (s : State) : Result :=
  finish (oneByte 0 fun s => s.transfer .a s.x) s

/-- `MOV X,SP` (R305). -/
def execMovXSp (s : State) : Result :=
  finish (oneByte 0 fun s => s.transfer .x s.sp) s

/-- `MOV SP,X` (R306). -/
def execMovSpX (s : State) : Result :=
  finish (oneByte 0 fun s => { s with sp := s.x }) s

/-- `MOV A,Y` (R307). -/
def execMovAY (s : State) : Result :=
  finish (oneByte 0 fun s => s.transfer .a s.y) s

/-- `MOV Y,A` (R308). -/
def execMovYA (s : State) : Result :=
  finish (oneByte 0 fun s => s.transfer .y s.a) s

/-! ### `ImpliedModify` -/

/-- `ASL A` (R309). -/
def execAslA (s : State) : Result :=
  finish (oneByte 0 fun s => s.applyAlu1 .asl .a) s

/-- `ROL A` (R310). -/
def execRolA (s : State) : Result :=
  finish (oneByte 0 fun s => s.applyAlu1 .rol .a) s

/-- `LSR A` (R311). -/
def execLsrA (s : State) : Result :=
  finish (oneByte 0 fun s => s.applyAlu1 .lsr .a) s

/-- `ROR A` (R312). -/
def execRorA (s : State) : Result :=
  finish (oneByte 0 fun s => s.applyAlu1 .ror .a) s

/-- `DEC A` (R313). -/
def execDecA (s : State) : Result :=
  finish (oneByte 0 fun s => s.applyAlu1 .dec .a) s

/-- `INC A` (R314). -/
def execIncA (s : State) : Result :=
  finish (oneByte 0 fun s => s.applyAlu1 .inc .a) s

/-- `DEC X` (R315). -/
def execDecX (s : State) : Result :=
  finish (oneByte 0 fun s => s.applyAlu1 .dec .x) s

/-- `INC X` (R316). -/
def execIncX (s : State) : Result :=
  finish (oneByte 0 fun s => s.applyAlu1 .inc .x) s

/-- `DEC Y` (R317). -/
def execDecY (s : State) : Result :=
  finish (oneByte 0 fun s => s.applyAlu1 .dec .y) s

/-- `INC Y` (R318). -/
def execIncY (s : State) : Result :=
  finish (oneByte 0 fun s => s.applyAlu1 .inc .y) s

/-! ### `FlagSet` -/

/-- `CLRP` (R319). -/
def execClrp (s : State) : Result :=
  finish (oneByte 0 fun s => s.mapFlags fun f => { f with pf := false }) s

/-- `SETP` (R320). -/
def execSetp (s : State) : Result :=
  finish (oneByte 0 fun s => s.mapFlags fun f => { f with pf := true }) s

/-- `CLRC` (R321). -/
def execClrc (s : State) : Result :=
  finish (oneByte 0 fun s => s.mapFlags fun f => { f with cf := false }) s

/-- `SETC` (R322). -/
def execSetc (s : State) : Result :=
  finish (oneByte 0 fun s => s.mapFlags fun f => { f with cf := true }) s

/-- `EI` (R323). -/
def execEi (s : State) : Result :=
  finish (oneByte 1 fun s => s.mapFlags fun f => { f with iflag := true }) s

/-- `DI` (R324). -/
def execDi (s : State) : Result :=
  finish (oneByte 1 fun s => s.mapFlags fun f => { f with iflag := false }) s

/-! ### `OverflowClear` -/

/-- `CLRV` (R325). -/
def execClrv (s : State) : Result :=
  finish (oneByte 0 fun s => s.mapFlags fun f => { f with hf := false, vf := false }) s

/-! ### `ComplementCarry` -/

/-- `NOTC` (R326). -/
def execNotc (s : State) : Result :=
  finish (oneByte 1 fun s => s.mapFlags fun f => { f with cf := !f.cf }) s

/-! ### `ExchangeNibble` -/

/-- `XCN A` (R327). -/
def execXcnA (s : State) : Result :=
  finish (oneByte 3 fun s => { s with a := (xcn s.a s.flags).1, flags := (xcn s.a s.flags).2 }) s

/-! ### `DecimalAdjustAdd` -/

/-- `DAA A` (R328). -/
def execDaaA (s : State) : Result :=
  finish (oneByte 1 fun s => { s with a := (daa s.a s.flags).1, flags := (daa s.a s.flags).2 }) s

/-! ### `DecimalAdjustSub` -/

/-- `DAS A` (R329). -/
def execDasA (s : State) : Result :=
  finish (oneByte 1 fun s => { s with a := (das s.a s.flags).1, flags := (das s.a s.flags).2 }) s

/-! ### `Multiply` -/

/-- `MUL YA` (R330). -/
def execMulYa (s : State) : Result :=
  finish (oneByte 7 fun s => s.applyMul) s

/-! ### `Divide` -/

/-- `DIV YA,X` (R331). -/
def execDivYaX (s : State) : Result :=
  finish (oneByte 10 fun s => s.applyDiv) s

end Sys2Proof.Machine
end

