-- ==== Sys2Proof/Machine/Halt.lean ====
section
/-! DEFINITION. Machine/Halt.lean: the meanings of the instructions of spec/49_halt.md:
wait and stop.
Each meaning is the rule's pseudocode from call 2 on; call 1, the opcode fetch, is the step's (R72). No meaning faults or
refuses (R400). -/

namespace Sys2Proof.Machine

/-! ### `Wait` -/

/-- `SLEEP` (R332). -/
def execSleep (s : State) : Result := finish (do
    change fun s => { s with wait := true }
    haltLoop) s

/-! ### `Stop` -/

/-- `STOP` (R333). -/
def execStop (s : State) : Result := finish (do
    change fun s => { s with stop := true }
    haltLoop) s

end Sys2Proof.Machine
end

