-- ==== Sys2Proof/Machine/MemoryToMemory.lean ====
section
/-! DEFINITION. Machine/MemoryToMemory.lean: the meanings of the instructions of spec/44_memory_to_memory.md:
the executors whose destination is a memory byte and whose source is memory or an immediate.
Each meaning is the rule's pseudocode from call 2 on; call 1, the opcode fetch, is the step's (R72). No meaning faults or
refuses (R400). -/

namespace Sys2Proof.Machine

/-! ### `DirectDirectModify` -/

/-- `OR dd,ds` (R239). -/
def execOrDdDs (dd : Byte) (ds : Byte) (s : State) : Result :=
  finish (modifyDirectDirect .or dd ds) s

/-- `AND dd,ds` (R240). -/
def execAndDdDs (dd : Byte) (ds : Byte) (s : State) : Result :=
  finish (modifyDirectDirect .and dd ds) s

/-- `EOR dd,ds` (R241). -/
def execEorDdDs (dd : Byte) (ds : Byte) (s : State) : Result :=
  finish (modifyDirectDirect .eor dd ds) s

/-- `ADC dd,ds` (R242). -/
def execAdcDdDs (dd : Byte) (ds : Byte) (s : State) : Result :=
  finish (modifyDirectDirect .adc dd ds) s

/-- `SBC dd,ds` (R243). -/
def execSbcDdDs (dd : Byte) (ds : Byte) (s : State) : Result :=
  finish (modifyDirectDirect .sbc dd ds) s

/-! ### `DirectDirectCompare` -/

/-- `CMP dd,ds` (R244). -/
def execCmpDdDs (dd : Byte) (ds : Byte) (s : State) : Result := finish (do
    let rhs ← loadSource ds
    let lhs ← load dd
    compareOnly lhs rhs) s

/-! ### `DirectDirectWrite` -/

/-- `MOV dd,ds` (R245). -/
def execMovDdDs (dd : Byte) (ds : Byte) (s : State) : Result := finish (do
    let v ← loadSource ds
    store dd v) s

/-! ### `DirectImmediateModify` -/

/-- `OR d,#i` (R246). -/
def execOrDImm (d : Byte) (i : Byte) (s : State) : Result :=
  finish (modifyDirectImmediate .or d i) s

/-- `AND d,#i` (R247). -/
def execAndDImm (d : Byte) (i : Byte) (s : State) : Result :=
  finish (modifyDirectImmediate .and d i) s

/-- `EOR d,#i` (R248). -/
def execEorDImm (d : Byte) (i : Byte) (s : State) : Result :=
  finish (modifyDirectImmediate .eor d i) s

/-- `ADC d,#i` (R249). -/
def execAdcDImm (d : Byte) (i : Byte) (s : State) : Result :=
  finish (modifyDirectImmediate .adc d i) s

/-- `SBC d,#i` (R250). -/
def execSbcDImm (d : Byte) (i : Byte) (s : State) : Result :=
  finish (modifyDirectImmediate .sbc d i) s

/-! ### `DirectImmediateCompare` -/

/-- `CMP d,#i` (R251). -/
def execCmpDImm (d : Byte) (i : Byte) (s : State) : Result := finish (do
    fetchOperand
    fetchOperand
    let v ← load d
    compareOnly v i) s

/-! ### `IndirectXWriteIndirectY` -/

/-- `OR (X),(Y)` (R252). -/
def execOrIndXIndY (s : State) : Result :=
  finish (modifyIndirect .or) s

/-- `AND (X),(Y)` (R253). -/
def execAndIndXIndY (s : State) : Result :=
  finish (modifyIndirect .and) s

/-- `EOR (X),(Y)` (R254). -/
def execEorIndXIndY (s : State) : Result :=
  finish (modifyIndirect .eor) s

/-- `ADC (X),(Y)` (R255). -/
def execAdcIndXIndY (s : State) : Result :=
  finish (modifyIndirect .adc) s

/-- `SBC (X),(Y)` (R256). -/
def execSbcIndXIndY (s : State) : Result :=
  finish (modifyIndirect .sbc) s

/-! ### `IndirectXCompareIndirectY` -/

/-- `CMP (X),(Y)` (R257). -/
def execCmpIndXIndY (s : State) : Result := finish (do
    let p ← loadIndirectPair
    compareOnly p.2 p.1) s

end Sys2Proof.Machine
end

