-- ==== Sys2Proof/Machine/ReadsBasic.lean ====
section
/-! DEFINITION. Machine/ReadsBasic.lean: the meanings of the instructions of spec/41_reads_basic.md:
the register-destination read executors over immediate, direct and absolute operands.
Each meaning is the rule's pseudocode from call 2 on; call 1, the opcode fetch, is the step's (R72). No meaning faults or
refuses (R400). -/

namespace Sys2Proof.Machine

/-! ### `ImmediateRead` -/

/-- `OR A,#i` (R120). -/
def execOrAImm (i : Byte) (s : State) : Result :=
  finish (immediateRead .or .a i) s

/-- `AND A,#i` (R121). -/
def execAndAImm (i : Byte) (s : State) : Result :=
  finish (immediateRead .and .a i) s

/-- `EOR A,#i` (R122). -/
def execEorAImm (i : Byte) (s : State) : Result :=
  finish (immediateRead .eor .a i) s

/-- `CMP A,#i` (R123). -/
def execCmpAImm (i : Byte) (s : State) : Result :=
  finish (immediateRead .cmp .a i) s

/-- `ADC A,#i` (R124). -/
def execAdcAImm (i : Byte) (s : State) : Result :=
  finish (immediateRead .adc .a i) s

/-- `SBC A,#i` (R125). -/
def execSbcAImm (i : Byte) (s : State) : Result :=
  finish (immediateRead .sbc .a i) s

/-- `MOV A,#i` (R126). -/
def execMovAImm (i : Byte) (s : State) : Result :=
  finish (immediateRead .ld .a i) s

/-- `MOV X,#i` (R127). -/
def execMovXImm (i : Byte) (s : State) : Result :=
  finish (immediateRead .ld .x i) s

/-- `MOV Y,#i` (R128). -/
def execMovYImm (i : Byte) (s : State) : Result :=
  finish (immediateRead .ld .y i) s

/-- `CMP X,#i` (R129). -/
def execCmpXImm (i : Byte) (s : State) : Result :=
  finish (immediateRead .cmp .x i) s

/-- `CMP Y,#i` (R130). -/
def execCmpYImm (i : Byte) (s : State) : Result :=
  finish (immediateRead .cmp .y i) s

/-! ### `DirectRead` -/

/-- `OR A,d` (R131). -/
def execOrAD (d : Byte) (s : State) : Result :=
  finish (readInto .or .a (.direct d)) s

/-- `AND A,d` (R132). -/
def execAndAD (d : Byte) (s : State) : Result :=
  finish (readInto .and .a (.direct d)) s

/-- `EOR A,d` (R133). -/
def execEorAD (d : Byte) (s : State) : Result :=
  finish (readInto .eor .a (.direct d)) s

/-- `CMP A,d` (R134). -/
def execCmpAD (d : Byte) (s : State) : Result :=
  finish (readInto .cmp .a (.direct d)) s

/-- `ADC A,d` (R135). -/
def execAdcAD (d : Byte) (s : State) : Result :=
  finish (readInto .adc .a (.direct d)) s

/-- `SBC A,d` (R136). -/
def execSbcAD (d : Byte) (s : State) : Result :=
  finish (readInto .sbc .a (.direct d)) s

/-- `MOV A,d` (R137). -/
def execMovAD (d : Byte) (s : State) : Result :=
  finish (readInto .ld .a (.direct d)) s

/-- `MOV X,d` (R138). -/
def execMovXD (d : Byte) (s : State) : Result :=
  finish (readInto .ld .x (.direct d)) s

/-- `MOV Y,d` (R139). -/
def execMovYD (d : Byte) (s : State) : Result :=
  finish (readInto .ld .y (.direct d)) s

/-- `CMP X,d` (R140). -/
def execCmpXD (d : Byte) (s : State) : Result :=
  finish (readInto .cmp .x (.direct d)) s

/-- `CMP Y,d` (R141). -/
def execCmpYD (d : Byte) (s : State) : Result :=
  finish (readInto .cmp .y (.direct d)) s

/-! ### `AbsoluteRead` -/

/-- `OR A,!a` (R142). -/
def execOrAAbs (a : Addr) (s : State) : Result :=
  finish (readInto .or .a (.absolute a)) s

/-- `AND A,!a` (R143). -/
def execAndAAbs (a : Addr) (s : State) : Result :=
  finish (readInto .and .a (.absolute a)) s

/-- `EOR A,!a` (R144). -/
def execEorAAbs (a : Addr) (s : State) : Result :=
  finish (readInto .eor .a (.absolute a)) s

/-- `CMP A,!a` (R145). -/
def execCmpAAbs (a : Addr) (s : State) : Result :=
  finish (readInto .cmp .a (.absolute a)) s

/-- `ADC A,!a` (R146). -/
def execAdcAAbs (a : Addr) (s : State) : Result :=
  finish (readInto .adc .a (.absolute a)) s

/-- `SBC A,!a` (R147). -/
def execSbcAAbs (a : Addr) (s : State) : Result :=
  finish (readInto .sbc .a (.absolute a)) s

/-- `MOV A,!a` (R148). -/
def execMovAAbs (a : Addr) (s : State) : Result :=
  finish (readInto .ld .a (.absolute a)) s

/-- `MOV X,!a` (R149). -/
def execMovXAbs (a : Addr) (s : State) : Result :=
  finish (readInto .ld .x (.absolute a)) s

/-- `MOV Y,!a` (R150). -/
def execMovYAbs (a : Addr) (s : State) : Result :=
  finish (readInto .ld .y (.absolute a)) s

/-- `CMP X,!a` (R151). -/
def execCmpXAbs (a : Addr) (s : State) : Result :=
  finish (readInto .cmp .x (.absolute a)) s

/-- `CMP Y,!a` (R152). -/
def execCmpYAbs (a : Addr) (s : State) : Result :=
  finish (readInto .cmp .y (.absolute a)) s

/-! ### `DirectIndexedRead` -/

/-- `OR A,d+X` (R153). -/
def execOrADX (d : Byte) (s : State) : Result :=
  finish (readInto .or .a (.directIndexed d .x)) s

/-- `AND A,d+X` (R154). -/
def execAndADX (d : Byte) (s : State) : Result :=
  finish (readInto .and .a (.directIndexed d .x)) s

/-- `EOR A,d+X` (R155). -/
def execEorADX (d : Byte) (s : State) : Result :=
  finish (readInto .eor .a (.directIndexed d .x)) s

/-- `CMP A,d+X` (R156). -/
def execCmpADX (d : Byte) (s : State) : Result :=
  finish (readInto .cmp .a (.directIndexed d .x)) s

/-- `ADC A,d+X` (R157). -/
def execAdcADX (d : Byte) (s : State) : Result :=
  finish (readInto .adc .a (.directIndexed d .x)) s

/-- `SBC A,d+X` (R158). -/
def execSbcADX (d : Byte) (s : State) : Result :=
  finish (readInto .sbc .a (.directIndexed d .x)) s

/-- `MOV A,d+X` (R159). -/
def execMovADX (d : Byte) (s : State) : Result :=
  finish (readInto .ld .a (.directIndexed d .x)) s

/-- `MOV X,d+Y` (R160). -/
def execMovXDY (d : Byte) (s : State) : Result :=
  finish (readInto .ld .x (.directIndexed d .y)) s

/-- `MOV Y,d+X` (R161). -/
def execMovYDX (d : Byte) (s : State) : Result :=
  finish (readInto .ld .y (.directIndexed d .x)) s

/-! ### `AbsoluteIndexedRead` -/

/-- `OR A,!a+X` (R162). -/
def execOrAAbsX (a : Addr) (s : State) : Result :=
  finish (readInto .or .a (.absoluteIndexed a .x)) s

/-- `AND A,!a+X` (R163). -/
def execAndAAbsX (a : Addr) (s : State) : Result :=
  finish (readInto .and .a (.absoluteIndexed a .x)) s

/-- `EOR A,!a+X` (R164). -/
def execEorAAbsX (a : Addr) (s : State) : Result :=
  finish (readInto .eor .a (.absoluteIndexed a .x)) s

/-- `CMP A,!a+X` (R165). -/
def execCmpAAbsX (a : Addr) (s : State) : Result :=
  finish (readInto .cmp .a (.absoluteIndexed a .x)) s

/-- `ADC A,!a+X` (R166). -/
def execAdcAAbsX (a : Addr) (s : State) : Result :=
  finish (readInto .adc .a (.absoluteIndexed a .x)) s

/-- `SBC A,!a+X` (R167). -/
def execSbcAAbsX (a : Addr) (s : State) : Result :=
  finish (readInto .sbc .a (.absoluteIndexed a .x)) s

/-- `MOV A,!a+X` (R168). -/
def execMovAAbsX (a : Addr) (s : State) : Result :=
  finish (readInto .ld .a (.absoluteIndexed a .x)) s

/-- `OR A,!a+Y` (R169). -/
def execOrAAbsY (a : Addr) (s : State) : Result :=
  finish (readInto .or .a (.absoluteIndexed a .y)) s

/-- `AND A,!a+Y` (R170). -/
def execAndAAbsY (a : Addr) (s : State) : Result :=
  finish (readInto .and .a (.absoluteIndexed a .y)) s

/-- `EOR A,!a+Y` (R171). -/
def execEorAAbsY (a : Addr) (s : State) : Result :=
  finish (readInto .eor .a (.absoluteIndexed a .y)) s

/-- `CMP A,!a+Y` (R172). -/
def execCmpAAbsY (a : Addr) (s : State) : Result :=
  finish (readInto .cmp .a (.absoluteIndexed a .y)) s

/-- `ADC A,!a+Y` (R173). -/
def execAdcAAbsY (a : Addr) (s : State) : Result :=
  finish (readInto .adc .a (.absoluteIndexed a .y)) s

/-- `SBC A,!a+Y` (R174). -/
def execSbcAAbsY (a : Addr) (s : State) : Result :=
  finish (readInto .sbc .a (.absoluteIndexed a .y)) s

/-- `MOV A,!a+Y` (R175). -/
def execMovAAbsY (a : Addr) (s : State) : Result :=
  finish (readInto .ld .a (.absoluteIndexed a .y)) s

end Sys2Proof.Machine
end

