-- ==== Sys2Proof/Machine/ReadsIndirectWord.lean ====
section
/-! DEFINITION. Machine/ReadsIndirectWord.lean: the meanings of the instructions of spec/42_reads_indirect_word.md:
the indirect read executors and the word reads.
Each meaning is the rule's pseudocode from call 2 on; call 1, the opcode fetch, is the step's (R72). No meaning faults or
refuses (R400). -/

namespace Sys2Proof.Machine

/-! ### `IndirectXRead` -/

/-- `OR A,(X)` (R176). -/
def execOrAIndX (s : State) : Result :=
  finish (readInto .or .a .indirectX) s

/-- `AND A,(X)` (R177). -/
def execAndAIndX (s : State) : Result :=
  finish (readInto .and .a .indirectX) s

/-- `EOR A,(X)` (R178). -/
def execEorAIndX (s : State) : Result :=
  finish (readInto .eor .a .indirectX) s

/-- `CMP A,(X)` (R179). -/
def execCmpAIndX (s : State) : Result :=
  finish (readInto .cmp .a .indirectX) s

/-- `ADC A,(X)` (R180). -/
def execAdcAIndX (s : State) : Result :=
  finish (readInto .adc .a .indirectX) s

/-- `SBC A,(X)` (R181). -/
def execSbcAIndX (s : State) : Result :=
  finish (readInto .sbc .a .indirectX) s

/-- `MOV A,(X)` (R182). -/
def execMovAIndX (s : State) : Result :=
  finish (readInto .ld .a .indirectX) s

/-! ### `IndexedIndirectRead` -/

/-- `OR A,[d+X]` (R183). -/
def execOrAIndDX (d : Byte) (s : State) : Result :=
  finish (readInto .or .a (.indexedIndirect d)) s

/-- `AND A,[d+X]` (R184). -/
def execAndAIndDX (d : Byte) (s : State) : Result :=
  finish (readInto .and .a (.indexedIndirect d)) s

/-- `EOR A,[d+X]` (R185). -/
def execEorAIndDX (d : Byte) (s : State) : Result :=
  finish (readInto .eor .a (.indexedIndirect d)) s

/-- `CMP A,[d+X]` (R186). -/
def execCmpAIndDX (d : Byte) (s : State) : Result :=
  finish (readInto .cmp .a (.indexedIndirect d)) s

/-- `ADC A,[d+X]` (R187). -/
def execAdcAIndDX (d : Byte) (s : State) : Result :=
  finish (readInto .adc .a (.indexedIndirect d)) s

/-- `SBC A,[d+X]` (R188). -/
def execSbcAIndDX (d : Byte) (s : State) : Result :=
  finish (readInto .sbc .a (.indexedIndirect d)) s

/-- `MOV A,[d+X]` (R189). -/
def execMovAIndDX (d : Byte) (s : State) : Result :=
  finish (readInto .ld .a (.indexedIndirect d)) s

/-! ### `IndirectIndexedRead` -/

/-- `OR A,[d]+Y` (R190). -/
def execOrAIndDY (d : Byte) (s : State) : Result :=
  finish (readInto .or .a (.indirectIndexed d)) s

/-- `AND A,[d]+Y` (R191). -/
def execAndAIndDY (d : Byte) (s : State) : Result :=
  finish (readInto .and .a (.indirectIndexed d)) s

/-- `EOR A,[d]+Y` (R192). -/
def execEorAIndDY (d : Byte) (s : State) : Result :=
  finish (readInto .eor .a (.indirectIndexed d)) s

/-- `CMP A,[d]+Y` (R193). -/
def execCmpAIndDY (d : Byte) (s : State) : Result :=
  finish (readInto .cmp .a (.indirectIndexed d)) s

/-- `ADC A,[d]+Y` (R194). -/
def execAdcAIndDY (d : Byte) (s : State) : Result :=
  finish (readInto .adc .a (.indirectIndexed d)) s

/-- `SBC A,[d]+Y` (R195). -/
def execSbcAIndDY (d : Byte) (s : State) : Result :=
  finish (readInto .sbc .a (.indirectIndexed d)) s

/-- `MOV A,[d]+Y` (R196). -/
def execMovAIndDY (d : Byte) (s : State) : Result :=
  finish (readInto .ld .a (.indirectIndexed d)) s

/-! ### `IndirectXIncrementRead` -/

/-- `MOV A,(X)+` (R197). -/
def execMovAIndXInc (s : State) : Result := finish (do
    dummyRead
    let s ← look
    let v ← load s.x
    change fun t => { t with x := t.x + 1, a := v }
    idle
    change fun t => { t with flags := setZN v t.flags }) s

/-! ### `DirectReadWord` -/

/-- `ADDW YA,d` (R198). -/
def execAddwYaD (d : Byte) (s : State) : Result :=
  finish (readWord .adw d) s

/-- `SUBW YA,d` (R199). -/
def execSubwYaD (d : Byte) (s : State) : Result :=
  finish (readWord .sbw d) s

/-- `MOVW YA,d` (R200). -/
def execMovwYaD (d : Byte) (s : State) : Result :=
  finish (readWord .ldw d) s

/-! ### `DirectCompareWord` -/

/-- `CMPW YA,d` (R201). -/
def execCmpwYaD (d : Byte) (s : State) : Result := finish (do
    fetchOperand
    let w ← loadPointer d
    change fun s => { s with flags := (cpw s.ya w s.flags).2 }) s

end Sys2Proof.Machine
end

