-- ==== Sys2Proof/Machine/WritesModifies.lean ====
section
/-! DEFINITION. Machine/WritesModifies.lean: the meanings of the instructions of spec/43_writes_modifies.md:
the store executors and the read-modify-write executors.
Each meaning is the rule's pseudocode from call 2 on; call 1, the opcode fetch, is the step's (R72). No meaning faults or
refuses (R400). -/

namespace Sys2Proof.Machine

/-! ### `DirectWrite` -/

/-- `MOV d,A` (R202). -/
def execMovDA (d : Byte) (s : State) : Result :=
  finish (storeFrom .a (.direct d)) s

/-- `MOV d,X` (R203). -/
def execMovDX (d : Byte) (s : State) : Result :=
  finish (storeFrom .x (.direct d)) s

/-- `MOV d,Y` (R204). -/
def execMovDY (d : Byte) (s : State) : Result :=
  finish (storeFrom .y (.direct d)) s

/-! ### `AbsoluteWrite` -/

/-- `MOV !a,A` (R205). -/
def execMovAbsA (a : Addr) (s : State) : Result :=
  finish (storeFrom .a (.absolute a)) s

/-- `MOV !a,X` (R206). -/
def execMovAbsX (a : Addr) (s : State) : Result :=
  finish (storeFrom .x (.absolute a)) s

/-- `MOV !a,Y` (R207). -/
def execMovAbsY (a : Addr) (s : State) : Result :=
  finish (storeFrom .y (.absolute a)) s

/-! ### `DirectIndexedWrite` -/

/-- `MOV d+X,A` (R208). -/
def execMovDXA (d : Byte) (s : State) : Result :=
  finish (storeFrom .a (.directIndexed d .x)) s

/-- `MOV d+Y,X` (R209). -/
def execMovDYX (d : Byte) (s : State) : Result :=
  finish (storeFrom .x (.directIndexed d .y)) s

/-- `MOV d+X,Y` (R210). -/
def execMovDXY (d : Byte) (s : State) : Result :=
  finish (storeFrom .y (.directIndexed d .x)) s

/-! ### `AbsoluteIndexedWrite` -/

/-- `MOV !a+X,A` (R211). -/
def execMovAbsXA (a : Addr) (s : State) : Result :=
  finish (storeFrom .a (.absoluteIndexed a .x)) s

/-- `MOV !a+Y,A` (R212). -/
def execMovAbsYA (a : Addr) (s : State) : Result :=
  finish (storeFrom .a (.absoluteIndexed a .y)) s

/-! ### `IndirectXWrite` -/

/-- `MOV (X),A` (R213). -/
def execMovIndXA (s : State) : Result :=
  finish (storeFrom .a .indirectX) s

/-! ### `IndexedIndirectWrite` -/

/-- `MOV [d+X],A` (R214). -/
def execMovIndDXA (d : Byte) (s : State) : Result :=
  finish (storeFrom .a (.indexedIndirect d)) s

/-! ### `IndirectIndexedWrite` -/

/-- `MOV [d]+Y,A` (R215). -/
def execMovIndDYA (d : Byte) (s : State) : Result :=
  finish (storeFrom .a (.indirectIndexed d)) s

/-! ### `IndirectXIncrementWrite` -/

/-- `MOV (X)+,A` (R216). -/
def execMovIndXIncA (s : State) : Result := finish (do
    dummyRead
    idle
    let s ← look
    store s.x s.a
    change fun t => { t with x := t.x + 1 }) s

/-! ### `DirectWriteWord` -/

/-- `MOVW d,YA` (R217). -/
def execMovwDYa (d : Byte) (s : State) : Result := finish (do
    fetchOperand
    let _ ← load d
    let s ← look
    store d s.a
    store (d + 1) s.y) s

/-! ### `DirectImmediateWrite` -/

/-- `MOV d,#i` (R218). -/
def execMovDImm (d : Byte) (i : Byte) (s : State) : Result := finish (do
    fetchOperand
    fetchOperand
    let _ ← load d
    store d i) s

/-! ### `DirectModify` -/

/-- `ASL d` (R219). -/
def execAslD (d : Byte) (s : State) : Result :=
  finish (modifyAt .asl (.direct d)) s

/-- `ROL d` (R220). -/
def execRolD (d : Byte) (s : State) : Result :=
  finish (modifyAt .rol (.direct d)) s

/-- `LSR d` (R221). -/
def execLsrD (d : Byte) (s : State) : Result :=
  finish (modifyAt .lsr (.direct d)) s

/-- `ROR d` (R222). -/
def execRorD (d : Byte) (s : State) : Result :=
  finish (modifyAt .ror (.direct d)) s

/-- `DEC d` (R223). -/
def execDecD (d : Byte) (s : State) : Result :=
  finish (modifyAt .dec (.direct d)) s

/-- `INC d` (R224). -/
def execIncD (d : Byte) (s : State) : Result :=
  finish (modifyAt .inc (.direct d)) s

/-! ### `AbsoluteModify` -/

/-- `ASL !a` (R225). -/
def execAslAbs (a : Addr) (s : State) : Result :=
  finish (modifyAt .asl (.absolute a)) s

/-- `ROL !a` (R226). -/
def execRolAbs (a : Addr) (s : State) : Result :=
  finish (modifyAt .rol (.absolute a)) s

/-- `LSR !a` (R227). -/
def execLsrAbs (a : Addr) (s : State) : Result :=
  finish (modifyAt .lsr (.absolute a)) s

/-- `ROR !a` (R228). -/
def execRorAbs (a : Addr) (s : State) : Result :=
  finish (modifyAt .ror (.absolute a)) s

/-- `DEC !a` (R229). -/
def execDecAbs (a : Addr) (s : State) : Result :=
  finish (modifyAt .dec (.absolute a)) s

/-- `INC !a` (R230). -/
def execIncAbs (a : Addr) (s : State) : Result :=
  finish (modifyAt .inc (.absolute a)) s

/-! ### `DirectIndexedModify` -/

/-- `ASL d+X` (R231). -/
def execAslDX (d : Byte) (s : State) : Result :=
  finish (modifyAt .asl (.directIndexed d .x)) s

/-- `ROL d+X` (R232). -/
def execRolDX (d : Byte) (s : State) : Result :=
  finish (modifyAt .rol (.directIndexed d .x)) s

/-- `LSR d+X` (R233). -/
def execLsrDX (d : Byte) (s : State) : Result :=
  finish (modifyAt .lsr (.directIndexed d .x)) s

/-- `ROR d+X` (R234). -/
def execRorDX (d : Byte) (s : State) : Result :=
  finish (modifyAt .ror (.directIndexed d .x)) s

/-- `DEC d+X` (R235). -/
def execDecDX (d : Byte) (s : State) : Result :=
  finish (modifyAt .dec (.directIndexed d .x)) s

/-- `INC d+X` (R236). -/
def execIncDX (d : Byte) (s : State) : Result :=
  finish (modifyAt .inc (.directIndexed d .x)) s

/-! ### `DirectModifyWord` -/

/-- `DECW d` (R237). -/
def execDecwD (d : Byte) (s : State) : Result :=
  finish (modifyWord 0xFFFF d) s

/-- `INCW d` (R238). -/
def execIncwD (d : Byte) (s : State) : Result :=
  finish (modifyWord 1 d) s

end Sys2Proof.Machine
end

