-- ==== Sys2Proof/Machine/Dispatch.lean ====
section
/-! DEFINITION. Machine/Dispatch.lean: the 256-entry dispatch of 30_encoding.md rules R72 and R73, one arm per row of
spec/opcode_table.json. Every arm calls the meaning of its instruction; none is refused. -/

namespace Sys2Proof.Machine

def exec (i : Instr) (s : State) : Host.Outcome State Fault Refusal :=
  match i with
  | .orAImm imm => Sys2Proof.Machine.execOrAImm imm s
  | .andAImm imm => Sys2Proof.Machine.execAndAImm imm s
  | .eorAImm imm => Sys2Proof.Machine.execEorAImm imm s
  | .cmpAImm imm => Sys2Proof.Machine.execCmpAImm imm s
  | .adcAImm imm => Sys2Proof.Machine.execAdcAImm imm s
  | .sbcAImm imm => Sys2Proof.Machine.execSbcAImm imm s
  | .movAImm imm => Sys2Proof.Machine.execMovAImm imm s
  | .movXImm imm => Sys2Proof.Machine.execMovXImm imm s
  | .movYImm imm => Sys2Proof.Machine.execMovYImm imm s
  | .cmpXImm imm => Sys2Proof.Machine.execCmpXImm imm s
  | .cmpYImm imm => Sys2Proof.Machine.execCmpYImm imm s
  | .orAD d => Sys2Proof.Machine.execOrAD d s
  | .andAD d => Sys2Proof.Machine.execAndAD d s
  | .eorAD d => Sys2Proof.Machine.execEorAD d s
  | .cmpAD d => Sys2Proof.Machine.execCmpAD d s
  | .adcAD d => Sys2Proof.Machine.execAdcAD d s
  | .sbcAD d => Sys2Proof.Machine.execSbcAD d s
  | .movAD d => Sys2Proof.Machine.execMovAD d s
  | .movXD d => Sys2Proof.Machine.execMovXD d s
  | .movYD d => Sys2Proof.Machine.execMovYD d s
  | .cmpXD d => Sys2Proof.Machine.execCmpXD d s
  | .cmpYD d => Sys2Proof.Machine.execCmpYD d s
  | .orAAbs a => Sys2Proof.Machine.execOrAAbs a s
  | .andAAbs a => Sys2Proof.Machine.execAndAAbs a s
  | .eorAAbs a => Sys2Proof.Machine.execEorAAbs a s
  | .cmpAAbs a => Sys2Proof.Machine.execCmpAAbs a s
  | .adcAAbs a => Sys2Proof.Machine.execAdcAAbs a s
  | .sbcAAbs a => Sys2Proof.Machine.execSbcAAbs a s
  | .movAAbs a => Sys2Proof.Machine.execMovAAbs a s
  | .movXAbs a => Sys2Proof.Machine.execMovXAbs a s
  | .movYAbs a => Sys2Proof.Machine.execMovYAbs a s
  | .cmpXAbs a => Sys2Proof.Machine.execCmpXAbs a s
  | .cmpYAbs a => Sys2Proof.Machine.execCmpYAbs a s
  | .orADX d => Sys2Proof.Machine.execOrADX d s
  | .andADX d => Sys2Proof.Machine.execAndADX d s
  | .eorADX d => Sys2Proof.Machine.execEorADX d s
  | .cmpADX d => Sys2Proof.Machine.execCmpADX d s
  | .adcADX d => Sys2Proof.Machine.execAdcADX d s
  | .sbcADX d => Sys2Proof.Machine.execSbcADX d s
  | .movADX d => Sys2Proof.Machine.execMovADX d s
  | .movXDY d => Sys2Proof.Machine.execMovXDY d s
  | .movYDX d => Sys2Proof.Machine.execMovYDX d s
  | .orAAbsX a => Sys2Proof.Machine.execOrAAbsX a s
  | .andAAbsX a => Sys2Proof.Machine.execAndAAbsX a s
  | .eorAAbsX a => Sys2Proof.Machine.execEorAAbsX a s
  | .cmpAAbsX a => Sys2Proof.Machine.execCmpAAbsX a s
  | .adcAAbsX a => Sys2Proof.Machine.execAdcAAbsX a s
  | .sbcAAbsX a => Sys2Proof.Machine.execSbcAAbsX a s
  | .movAAbsX a => Sys2Proof.Machine.execMovAAbsX a s
  | .orAAbsY a => Sys2Proof.Machine.execOrAAbsY a s
  | .andAAbsY a => Sys2Proof.Machine.execAndAAbsY a s
  | .eorAAbsY a => Sys2Proof.Machine.execEorAAbsY a s
  | .cmpAAbsY a => Sys2Proof.Machine.execCmpAAbsY a s
  | .adcAAbsY a => Sys2Proof.Machine.execAdcAAbsY a s
  | .sbcAAbsY a => Sys2Proof.Machine.execSbcAAbsY a s
  | .movAAbsY a => Sys2Proof.Machine.execMovAAbsY a s
  | .orAIndX => Sys2Proof.Machine.execOrAIndX s
  | .andAIndX => Sys2Proof.Machine.execAndAIndX s
  | .eorAIndX => Sys2Proof.Machine.execEorAIndX s
  | .cmpAIndX => Sys2Proof.Machine.execCmpAIndX s
  | .adcAIndX => Sys2Proof.Machine.execAdcAIndX s
  | .sbcAIndX => Sys2Proof.Machine.execSbcAIndX s
  | .movAIndX => Sys2Proof.Machine.execMovAIndX s
  | .orAIndDX d => Sys2Proof.Machine.execOrAIndDX d s
  | .andAIndDX d => Sys2Proof.Machine.execAndAIndDX d s
  | .eorAIndDX d => Sys2Proof.Machine.execEorAIndDX d s
  | .cmpAIndDX d => Sys2Proof.Machine.execCmpAIndDX d s
  | .adcAIndDX d => Sys2Proof.Machine.execAdcAIndDX d s
  | .sbcAIndDX d => Sys2Proof.Machine.execSbcAIndDX d s
  | .movAIndDX d => Sys2Proof.Machine.execMovAIndDX d s
  | .orAIndDY d => Sys2Proof.Machine.execOrAIndDY d s
  | .andAIndDY d => Sys2Proof.Machine.execAndAIndDY d s
  | .eorAIndDY d => Sys2Proof.Machine.execEorAIndDY d s
  | .cmpAIndDY d => Sys2Proof.Machine.execCmpAIndDY d s
  | .adcAIndDY d => Sys2Proof.Machine.execAdcAIndDY d s
  | .sbcAIndDY d => Sys2Proof.Machine.execSbcAIndDY d s
  | .movAIndDY d => Sys2Proof.Machine.execMovAIndDY d s
  | .movAIndXInc => Sys2Proof.Machine.execMovAIndXInc s
  | .addwYaD d => Sys2Proof.Machine.execAddwYaD d s
  | .subwYaD d => Sys2Proof.Machine.execSubwYaD d s
  | .movwYaD d => Sys2Proof.Machine.execMovwYaD d s
  | .cmpwYaD d => Sys2Proof.Machine.execCmpwYaD d s
  | .movDA d => Sys2Proof.Machine.execMovDA d s
  | .movDX d => Sys2Proof.Machine.execMovDX d s
  | .movDY d => Sys2Proof.Machine.execMovDY d s
  | .movAbsA a => Sys2Proof.Machine.execMovAbsA a s
  | .movAbsX a => Sys2Proof.Machine.execMovAbsX a s
  | .movAbsY a => Sys2Proof.Machine.execMovAbsY a s
  | .movDXA d => Sys2Proof.Machine.execMovDXA d s
  | .movDYX d => Sys2Proof.Machine.execMovDYX d s
  | .movDXY d => Sys2Proof.Machine.execMovDXY d s
  | .movAbsXA a => Sys2Proof.Machine.execMovAbsXA a s
  | .movAbsYA a => Sys2Proof.Machine.execMovAbsYA a s
  | .movIndXA => Sys2Proof.Machine.execMovIndXA s
  | .movIndDXA d => Sys2Proof.Machine.execMovIndDXA d s
  | .movIndDYA d => Sys2Proof.Machine.execMovIndDYA d s
  | .movIndXIncA => Sys2Proof.Machine.execMovIndXIncA s
  | .movwDYa d => Sys2Proof.Machine.execMovwDYa d s
  | .movDImm d imm => Sys2Proof.Machine.execMovDImm d imm s
  | .aslD d => Sys2Proof.Machine.execAslD d s
  | .rolD d => Sys2Proof.Machine.execRolD d s
  | .lsrD d => Sys2Proof.Machine.execLsrD d s
  | .rorD d => Sys2Proof.Machine.execRorD d s
  | .decD d => Sys2Proof.Machine.execDecD d s
  | .incD d => Sys2Proof.Machine.execIncD d s
  | .aslAbs a => Sys2Proof.Machine.execAslAbs a s
  | .rolAbs a => Sys2Proof.Machine.execRolAbs a s
  | .lsrAbs a => Sys2Proof.Machine.execLsrAbs a s
  | .rorAbs a => Sys2Proof.Machine.execRorAbs a s
  | .decAbs a => Sys2Proof.Machine.execDecAbs a s
  | .incAbs a => Sys2Proof.Machine.execIncAbs a s
  | .aslDX d => Sys2Proof.Machine.execAslDX d s
  | .rolDX d => Sys2Proof.Machine.execRolDX d s
  | .lsrDX d => Sys2Proof.Machine.execLsrDX d s
  | .rorDX d => Sys2Proof.Machine.execRorDX d s
  | .decDX d => Sys2Proof.Machine.execDecDX d s
  | .incDX d => Sys2Proof.Machine.execIncDX d s
  | .decwD d => Sys2Proof.Machine.execDecwD d s
  | .incwD d => Sys2Proof.Machine.execIncwD d s
  | .orDdDs dd ds => Sys2Proof.Machine.execOrDdDs dd ds s
  | .andDdDs dd ds => Sys2Proof.Machine.execAndDdDs dd ds s
  | .eorDdDs dd ds => Sys2Proof.Machine.execEorDdDs dd ds s
  | .adcDdDs dd ds => Sys2Proof.Machine.execAdcDdDs dd ds s
  | .sbcDdDs dd ds => Sys2Proof.Machine.execSbcDdDs dd ds s
  | .cmpDdDs dd ds => Sys2Proof.Machine.execCmpDdDs dd ds s
  | .movDdDs dd ds => Sys2Proof.Machine.execMovDdDs dd ds s
  | .orDImm d imm => Sys2Proof.Machine.execOrDImm d imm s
  | .andDImm d imm => Sys2Proof.Machine.execAndDImm d imm s
  | .eorDImm d imm => Sys2Proof.Machine.execEorDImm d imm s
  | .adcDImm d imm => Sys2Proof.Machine.execAdcDImm d imm s
  | .sbcDImm d imm => Sys2Proof.Machine.execSbcDImm d imm s
  | .cmpDImm d imm => Sys2Proof.Machine.execCmpDImm d imm s
  | .orIndXIndY => Sys2Proof.Machine.execOrIndXIndY s
  | .andIndXIndY => Sys2Proof.Machine.execAndIndXIndY s
  | .eorIndXIndY => Sys2Proof.Machine.execEorIndXIndY s
  | .adcIndXIndY => Sys2Proof.Machine.execAdcIndXIndY s
  | .sbcIndXIndY => Sys2Proof.Machine.execSbcIndXIndY s
  | .cmpIndXIndY => Sys2Proof.Machine.execCmpIndXIndY s
  | .or1CMb a b => Sys2Proof.Machine.execOr1CMb a b s
  | .or1CNotMb a b => Sys2Proof.Machine.execOr1CNotMb a b s
  | .and1CMb a b => Sys2Proof.Machine.execAnd1CMb a b s
  | .and1CNotMb a b => Sys2Proof.Machine.execAnd1CNotMb a b s
  | .eor1CMb a b => Sys2Proof.Machine.execEor1CMb a b s
  | .mov1CMb a b => Sys2Proof.Machine.execMov1CMb a b s
  | .mov1MbC a b => Sys2Proof.Machine.execMov1MbC a b s
  | .not1Mb a b => Sys2Proof.Machine.execNot1Mb a b s
  | .set1Dbit b d => Sys2Proof.Machine.execSet1Dbit b d s
  | .clr1Dbit b d => Sys2Proof.Machine.execClr1Dbit b d s
  | .tset1Abs a => Sys2Proof.Machine.execTset1Abs a s
  | .tclr1Abs a => Sys2Proof.Machine.execTclr1Abs a s
  | .bbsDbitRel b d r => Sys2Proof.Machine.execBbsDbitRel b d r s
  | .bbcDbitRel b d r => Sys2Proof.Machine.execBbcDbitRel b d r s
  | .bplRel r => Sys2Proof.Machine.execBplRel r s
  | .bmiRel r => Sys2Proof.Machine.execBmiRel r s
  | .bvcRel r => Sys2Proof.Machine.execBvcRel r s
  | .bvsRel r => Sys2Proof.Machine.execBvsRel r s
  | .bccRel r => Sys2Proof.Machine.execBccRel r s
  | .bcsRel r => Sys2Proof.Machine.execBcsRel r s
  | .bneRel r => Sys2Proof.Machine.execBneRel r s
  | .beqRel r => Sys2Proof.Machine.execBeqRel r s
  | .braRel r => Sys2Proof.Machine.execBraRel r s
  | .cbneDRel d r => Sys2Proof.Machine.execCbneDRel d r s
  | .cbneDXRel d r => Sys2Proof.Machine.execCbneDXRel d r s
  | .dbnzDRel d r => Sys2Proof.Machine.execDbnzDRel d r s
  | .dbnzYRel r => Sys2Proof.Machine.execDbnzYRel r s
  | .jmpAbs a => Sys2Proof.Machine.execJmpAbs a s
  | .jmpIndAbsX a => Sys2Proof.Machine.execJmpIndAbsX a s
  | .callAbs a => Sys2Proof.Machine.execCallAbs a s
  | .pcallU u => Sys2Proof.Machine.execPcallU u s
  | .tcallV v => Sys2Proof.Machine.execTcallV v s
  | .brk => Sys2Proof.Machine.execBrk s
  | .ret => Sys2Proof.Machine.execRet s
  | .reti => Sys2Proof.Machine.execReti s
  | .pushPsw => Sys2Proof.Machine.execPushPsw s
  | .pushA => Sys2Proof.Machine.execPushA s
  | .pushX => Sys2Proof.Machine.execPushX s
  | .pushY => Sys2Proof.Machine.execPushY s
  | .popA => Sys2Proof.Machine.execPopA s
  | .popX => Sys2Proof.Machine.execPopX s
  | .popY => Sys2Proof.Machine.execPopY s
  | .popPsw => Sys2Proof.Machine.execPopPsw s
  | .nop => Sys2Proof.Machine.execNop s
  | .movXA => Sys2Proof.Machine.execMovXA s
  | .movAX => Sys2Proof.Machine.execMovAX s
  | .movXSp => Sys2Proof.Machine.execMovXSp s
  | .movSpX => Sys2Proof.Machine.execMovSpX s
  | .movAY => Sys2Proof.Machine.execMovAY s
  | .movYA => Sys2Proof.Machine.execMovYA s
  | .aslA => Sys2Proof.Machine.execAslA s
  | .rolA => Sys2Proof.Machine.execRolA s
  | .lsrA => Sys2Proof.Machine.execLsrA s
  | .rorA => Sys2Proof.Machine.execRorA s
  | .decA => Sys2Proof.Machine.execDecA s
  | .incA => Sys2Proof.Machine.execIncA s
  | .decX => Sys2Proof.Machine.execDecX s
  | .incX => Sys2Proof.Machine.execIncX s
  | .decY => Sys2Proof.Machine.execDecY s
  | .incY => Sys2Proof.Machine.execIncY s
  | .clrp => Sys2Proof.Machine.execClrp s
  | .setp => Sys2Proof.Machine.execSetp s
  | .clrc => Sys2Proof.Machine.execClrc s
  | .setc => Sys2Proof.Machine.execSetc s
  | .ei => Sys2Proof.Machine.execEi s
  | .di => Sys2Proof.Machine.execDi s
  | .clrv => Sys2Proof.Machine.execClrv s
  | .notc => Sys2Proof.Machine.execNotc s
  | .xcnA => Sys2Proof.Machine.execXcnA s
  | .daaA => Sys2Proof.Machine.execDaaA s
  | .dasA => Sys2Proof.Machine.execDasA s
  | .mulYa => Sys2Proof.Machine.execMulYa s
  | .divYaX => Sys2Proof.Machine.execDivYaX s
  | .sleep => Sys2Proof.Machine.execSleep s
  | .stop => Sys2Proof.Machine.execStop s

end Sys2Proof.Machine
end

