-- ==== Sys2Proof/Machine/Step.lean ====
section
/-! DEFINITION. Machine/Step.lean: one call of `step_one_instruction()` (30_encoding.md rule R72), and placing an
instruction where the next step fetches it. -/

namespace Sys2Proof.Machine

/-- One step (R72, R336, R405): the halted step when `wait` or `stop` is set, otherwise the opcode fetch (port call 1) and
the rule of the fetched opcode. There is no other check, before or after (R403). -/
def step (s : State) : Host.Outcome State Fault Refusal :=
  if s.wait || s.stop then finish haltLoop s else exec (fetchedInstr s) (fetch s).2

/-- `s` with the instruction whose bits are `w` stored at PC, so that the next step fetches and runs it: the three bytes go
into the RAM, no scripted answer stands before the RAM, and the core is not halted. notes/assumptions/5.md. -/
def State.withFetchWord (s : State) (nbits w : Nat) : State :=
  { s with
    wait := false
    stop := false
    port := { s.port with mem := s.port.mem.writeBytes s.pc (tableBytes nbits w), answers := [] } }

end Sys2Proof.Machine
end

