-- ==== Sys2Proof/Machine/HostCalls.lean ====
section
/-! DEFINITION. Machine/HostCalls.lean: the three calls of the host other than the step (60_exceptions.md rule R413):
`power()`, `serialize(buffer)`, `deserialize(buffer)` (70_reset_and_hazards.md rules R430 to R436). None makes a port call;
each acts between steps. -/

namespace Sys2Proof.Machine

/-- `power()` (R430, R431): every element of the core's record is written, the port is not called. -/
def power (s : State) : State :=
  { pc := Config.pcReset, a := 0x00, y := 0x00, x := 0x00, sp := Config.spReset,
    flags := unpackPsw Config.pswReset, wait := false, stop := false, port := s.port }

/-- A boolean as a byte of the image (R434). -/
def boolByte (b : Bool) : Byte := if b then 0x01 else 0x00

/-- A byte of the image as a boolean: 0x00 is false, any other value is true (R436). -/
def byteBool (b : Byte) : Bool := decide (b ≠ 0x00)

/-- The 16 bytes that `serialize` appends to the buffer (R433, R434). -/
def serialize (s : State) : List Byte :=
  [loByte s.pc, hiByte s.pc, s.a, s.y, s.x, s.sp,
   boolByte s.flags.cf, boolByte s.flags.zf, boolByte s.flags.iflag, boolByte s.flags.hf,
   boolByte s.flags.bf, boolByte s.flags.pf, boolByte s.flags.vf, boolByte s.flags.nf,
   boolByte s.wait, boolByte s.stop]

/-- `deserialize` (R436): with at least 16 bytes the whole record is overwritten from the first 16 and the answer is true,
with fewer the answer is false and the state is unchanged. No field value is rejected. -/
def deserialize (buffer : List Byte) (s : State) : Bool × State :=
  match buffer with
  | pcl :: pch :: a :: y :: x :: sp :: c :: z :: i :: h :: b :: p :: v :: n :: w :: st :: _ =>
    (true,
      { pc := wordOf pcl pch, a := a, y := y, x := x, sp := sp,
        flags := { cf := byteBool c, zf := byteBool z, iflag := byteBool i, hf := byteBool h,
                   bf := byteBool b, pf := byteBool p, vf := byteBool v, nf := byteBool n },
        wait := byteBool w, stop := byteBool st, port := s.port })
  | _ => (false, s)

end Sys2Proof.Machine
end

