-- ==== Sys2Proof/Safety.lean ====
section
/-! DEFINITION. Safety.lean: the terms in which claims speak of a run: the invariant of the state, what is observed at the
port, and the tables of the spec transcribed once as data (which flags a rule writes, which registers, which addresses it
stores to, the length grid of 30_encoding.md rule R71, the call-count grid of 70_reset_and_hazards.md rule R440, which
constructor is which executor's instance). Nothing here is used by the machine: a claim compares the two. -/

namespace Sys2Proof.Machine

/-! ### Execution states and the invariant -/

/-- Halted: `wait` or `stop` is set (R27, R28). -/
def State.halted (s : State) : Prop := s.wait = true ∨ s.stop = true

/-- What every run keeps: the RAM is in its canonical form (R45, R62), and `wait` and `stop` are not both set (R28). -/
structure State.Inv (s : State) : Prop where
  mem_wf : s.port.mem.wf = true
  one_mode : ¬(s.wait = true ∧ s.stop = true)

/-! ### What is observed at the port -/

/-- A call that counts: read, write or idle. A `Sync()` query is not counted (R6, R440). -/
def PortCall.counted : PortCall → Bool
  | .read _ _ => true
  | .write _ _ => true
  | .idle => true
  | .sync _ => false

/-- How many counted calls the port has seen. -/
def Port.counted (p : Port) : Nat := p.log.countP PortCall.counted

/-- How many `Sync()` queries the port has answered with false. -/
def Port.syncFalse (p : Port) : Nat := p.log.countP fun c => decide (c = .sync false)

/-- Calls number `n` (0 is the first) of those made since the port was `p`, in the order in which they were made. -/
def Port.callSince (q p : Port) (n : Nat) : Option PortCall :=
  ((q.log.take (q.log.length - p.log.length)).reverse)[n]?

/-- The requests of one run of the halt loop at `pc` when the `Sync()` answers to come are `answers` (R334); when they are
used up the port answers true (notes/assumptions/3.md). -/
def haltRequests (pc : Addr) : List Bool → List Request
  | [] => [.sync]
  | true :: _ => [.sync]
  | false :: rest => .sync :: .read pc :: .idle :: haltRequests pc rest

/-- The state after `n` more program bytes and the requests `rs`. -/
def State.after (s : State) (n : Addr) (rs : List Request) : State :=
  { s with pc := s.pc + n, port := s.port.performAll rs }

/-- The end of a branch: `rs` are the calls of the instruction up to the fetch of the displacement, `next` is the address of
the next instruction; a taken branch makes two idle calls more (R272). -/
def State.branched (s : State) (rs : List Request) (next : Addr) (taken : Bool) (r : Byte) : State :=
  if taken then { s with pc := next + r.signExtend 16, port := s.port.performAll (rs ++ [.idle, .idle]) }
  else { s with pc := next, port := s.port.performAll rs }

/-- The stack address after `k` pushes (R49). -/
def State.stackAddrAt (s : State) (k : Byte) : Addr := wordOf (s.sp - k) Config.stackPage

/-! ### The flags and registers by name -/

/-- A flag's name (R24). -/
inductive FlagName where
  | c
  | z
  | i
  | h
  | b
  | p
  | v
  | n
deriving DecidableEq, Repr

/-- The flag of that name. -/
def Flags.get (f : Flags) : FlagName → Bool
  | .c => f.cf
  | .z => f.zf
  | .i => f.iflag
  | .h => f.hf
  | .b => f.bf
  | .p => f.pf
  | .v => f.vf
  | .n => f.nf

/-- An 8-bit register's name (R20). -/
inductive RegName where
  | a
  | x
  | y
  | s
deriving DecidableEq, Repr

/-- The register of that name. -/
def State.get (s : State) : RegName → Byte
  | .a => s.a
  | .x => s.x
  | .y => s.y
  | .s => s.sp

/-- The same state with another value of IF (R404). -/
def State.withIf (s : State) (b : Bool) : State := { s with flags := { s.flags with iflag := b } }

/-! ### Tables from the instruction rules -/

/-- The "Flags written" line of each rule (R25), transcribed from spec/41 to 49. -/
def flagsWritten : Instr → List FlagName
  | .orAImm _ => [.z, .n]
  | .andAImm _ => [.z, .n]
  | .eorAImm _ => [.z, .n]
  | .cmpAImm _ => [.c, .z, .n]
  | .adcAImm _ => [.c, .z, .h, .v, .n]
  | .sbcAImm _ => [.c, .z, .h, .v, .n]
  | .movAImm _ => [.z, .n]
  | .movXImm _ => [.z, .n]
  | .movYImm _ => [.z, .n]
  | .cmpXImm _ => [.c, .z, .n]
  | .cmpYImm _ => [.c, .z, .n]
  | .orAD _ => [.z, .n]
  | .andAD _ => [.z, .n]
  | .eorAD _ => [.z, .n]
  | .cmpAD _ => [.c, .z, .n]
  | .adcAD _ => [.c, .z, .h, .v, .n]
  | .sbcAD _ => [.c, .z, .h, .v, .n]
  | .movAD _ => [.z, .n]
  | .movXD _ => [.z, .n]
  | .movYD _ => [.z, .n]
  | .cmpXD _ => [.c, .z, .n]
  | .cmpYD _ => [.c, .z, .n]
  | .orAAbs _ => [.z, .n]
  | .andAAbs _ => [.z, .n]
  | .eorAAbs _ => [.z, .n]
  | .cmpAAbs _ => [.c, .z, .n]
  | .adcAAbs _ => [.c, .z, .h, .v, .n]
  | .sbcAAbs _ => [.c, .z, .h, .v, .n]
  | .movAAbs _ => [.z, .n]
  | .movXAbs _ => [.z, .n]
  | .movYAbs _ => [.z, .n]
  | .cmpXAbs _ => [.c, .z, .n]
  | .cmpYAbs _ => [.c, .z, .n]
  | .orADX _ => [.z, .n]
  | .andADX _ => [.z, .n]
  | .eorADX _ => [.z, .n]
  | .cmpADX _ => [.c, .z, .n]
  | .adcADX _ => [.c, .z, .h, .v, .n]
  | .sbcADX _ => [.c, .z, .h, .v, .n]
  | .movADX _ => [.z, .n]
  | .movXDY _ => [.z, .n]
  | .movYDX _ => [.z, .n]
  | .orAAbsX _ => [.z, .n]
  | .andAAbsX _ => [.z, .n]
  | .eorAAbsX _ => [.z, .n]
  | .cmpAAbsX _ => [.c, .z, .n]
  | .adcAAbsX _ => [.c, .z, .h, .v, .n]
  | .sbcAAbsX _ => [.c, .z, .h, .v, .n]
  | .movAAbsX _ => [.z, .n]
  | .orAAbsY _ => [.z, .n]
  | .andAAbsY _ => [.z, .n]
  | .eorAAbsY _ => [.z, .n]
  | .cmpAAbsY _ => [.c, .z, .n]
  | .adcAAbsY _ => [.c, .z, .h, .v, .n]
  | .sbcAAbsY _ => [.c, .z, .h, .v, .n]
  | .movAAbsY _ => [.z, .n]
  | .orAIndX => [.z, .n]
  | .andAIndX => [.z, .n]
  | .eorAIndX => [.z, .n]
  | .cmpAIndX => [.c, .z, .n]
  | .adcAIndX => [.c, .z, .h, .v, .n]
  | .sbcAIndX => [.c, .z, .h, .v, .n]
  | .movAIndX => [.z, .n]
  | .orAIndDX _ => [.z, .n]
  | .andAIndDX _ => [.z, .n]
  | .eorAIndDX _ => [.z, .n]
  | .cmpAIndDX _ => [.c, .z, .n]
  | .adcAIndDX _ => [.c, .z, .h, .v, .n]
  | .sbcAIndDX _ => [.c, .z, .h, .v, .n]
  | .movAIndDX _ => [.z, .n]
  | .orAIndDY _ => [.z, .n]
  | .andAIndDY _ => [.z, .n]
  | .eorAIndDY _ => [.z, .n]
  | .cmpAIndDY _ => [.c, .z, .n]
  | .adcAIndDY _ => [.c, .z, .h, .v, .n]
  | .sbcAIndDY _ => [.c, .z, .h, .v, .n]
  | .movAIndDY _ => [.z, .n]
  | .movAIndXInc => [.z, .n]
  | .addwYaD _ => [.c, .z, .h, .v, .n]
  | .subwYaD _ => [.c, .z, .h, .v, .n]
  | .movwYaD _ => [.z, .n]
  | .cmpwYaD _ => [.c, .z, .n]
  | .movDA _ => []
  | .movDX _ => []
  | .movDY _ => []
  | .movAbsA _ => []
  | .movAbsX _ => []
  | .movAbsY _ => []
  | .movDXA _ => []
  | .movDYX _ => []
  | .movDXY _ => []
  | .movAbsXA _ => []
  | .movAbsYA _ => []
  | .movIndXA => []
  | .movIndDXA _ => []
  | .movIndDYA _ => []
  | .movIndXIncA => []
  | .movwDYa _ => []
  | .movDImm _ _ => []
  | .aslD _ => [.c, .z, .n]
  | .rolD _ => [.c, .z, .n]
  | .lsrD _ => [.c, .z, .n]
  | .rorD _ => [.c, .z, .n]
  | .decD _ => [.z, .n]
  | .incD _ => [.z, .n]
  | .aslAbs _ => [.c, .z, .n]
  | .rolAbs _ => [.c, .z, .n]
  | .lsrAbs _ => [.c, .z, .n]
  | .rorAbs _ => [.c, .z, .n]
  | .decAbs _ => [.z, .n]
  | .incAbs _ => [.z, .n]
  | .aslDX _ => [.c, .z, .n]
  | .rolDX _ => [.c, .z, .n]
  | .lsrDX _ => [.c, .z, .n]
  | .rorDX _ => [.c, .z, .n]
  | .decDX _ => [.z, .n]
  | .incDX _ => [.z, .n]
  | .decwD _ => [.z, .n]
  | .incwD _ => [.z, .n]
  | .orDdDs _ _ => [.z, .n]
  | .andDdDs _ _ => [.z, .n]
  | .eorDdDs _ _ => [.z, .n]
  | .adcDdDs _ _ => [.c, .z, .h, .v, .n]
  | .sbcDdDs _ _ => [.c, .z, .h, .v, .n]
  | .cmpDdDs _ _ => [.c, .z, .n]
  | .movDdDs _ _ => []
  | .orDImm _ _ => [.z, .n]
  | .andDImm _ _ => [.z, .n]
  | .eorDImm _ _ => [.z, .n]
  | .adcDImm _ _ => [.c, .z, .h, .v, .n]
  | .sbcDImm _ _ => [.c, .z, .h, .v, .n]
  | .cmpDImm _ _ => [.c, .z, .n]
  | .orIndXIndY => [.z, .n]
  | .andIndXIndY => [.z, .n]
  | .eorIndXIndY => [.z, .n]
  | .adcIndXIndY => [.c, .z, .h, .v, .n]
  | .sbcIndXIndY => [.c, .z, .h, .v, .n]
  | .cmpIndXIndY => [.c, .z, .n]
  | .or1CMb _ _ => [.c]
  | .or1CNotMb _ _ => [.c]
  | .and1CMb _ _ => [.c]
  | .and1CNotMb _ _ => [.c]
  | .eor1CMb _ _ => [.c]
  | .mov1CMb _ _ => [.c]
  | .mov1MbC _ _ => []
  | .not1Mb _ _ => []
  | .set1Dbit _ _ => []
  | .clr1Dbit _ _ => []
  | .tset1Abs _ => [.z, .n]
  | .tclr1Abs _ => [.z, .n]
  | .bbsDbitRel _ _ _ => []
  | .bbcDbitRel _ _ _ => []
  | .bplRel _ => []
  | .bmiRel _ => []
  | .bvcRel _ => []
  | .bvsRel _ => []
  | .bccRel _ => []
  | .bcsRel _ => []
  | .bneRel _ => []
  | .beqRel _ => []
  | .braRel _ => []
  | .cbneDRel _ _ => []
  | .cbneDXRel _ _ => []
  | .dbnzDRel _ _ => []
  | .dbnzYRel _ => []
  | .jmpAbs _ => []
  | .jmpIndAbsX _ => []
  | .callAbs _ => []
  | .pcallU _ => []
  | .tcallV _ => []
  | .brk => [.i, .b]
  | .ret => []
  | .reti => [.c, .z, .i, .h, .b, .p, .v, .n]
  | .pushPsw => []
  | .pushA => []
  | .pushX => []
  | .pushY => []
  | .popA => []
  | .popX => []
  | .popY => []
  | .popPsw => [.c, .z, .i, .h, .b, .p, .v, .n]
  | .nop => []
  | .movXA => [.z, .n]
  | .movAX => [.z, .n]
  | .movXSp => [.z, .n]
  | .movSpX => []
  | .movAY => [.z, .n]
  | .movYA => [.z, .n]
  | .aslA => [.c, .z, .n]
  | .rolA => [.c, .z, .n]
  | .lsrA => [.c, .z, .n]
  | .rorA => [.c, .z, .n]
  | .decA => [.z, .n]
  | .incA => [.z, .n]
  | .decX => [.z, .n]
  | .incX => [.z, .n]
  | .decY => [.z, .n]
  | .incY => [.z, .n]
  | .clrp => [.p]
  | .setp => [.p]
  | .clrc => [.c]
  | .setc => [.c]
  | .ei => [.i]
  | .di => [.i]
  | .clrv => [.h, .v]
  | .notc => [.c]
  | .xcnA => [.z, .n]
  | .daaA => [.c, .z, .n]
  | .dasA => [.c, .z, .n]
  | .mulYa => [.z, .n]
  | .divYaX => [.h, .v, .z, .n]
  | .sleep => []
  | .stop => []

/-- The 8-bit registers each rule writes: its destination, and those its operand form or the stack moves. -/
def regsWritten : Instr → List RegName
  | .orAImm _ => [.a]
  | .andAImm _ => [.a]
  | .eorAImm _ => [.a]
  | .cmpAImm _ => []
  | .adcAImm _ => [.a]
  | .sbcAImm _ => [.a]
  | .movAImm _ => [.a]
  | .movXImm _ => [.x]
  | .movYImm _ => [.y]
  | .cmpXImm _ => []
  | .cmpYImm _ => []
  | .orAD _ => [.a]
  | .andAD _ => [.a]
  | .eorAD _ => [.a]
  | .cmpAD _ => []
  | .adcAD _ => [.a]
  | .sbcAD _ => [.a]
  | .movAD _ => [.a]
  | .movXD _ => [.x]
  | .movYD _ => [.y]
  | .cmpXD _ => []
  | .cmpYD _ => []
  | .orAAbs _ => [.a]
  | .andAAbs _ => [.a]
  | .eorAAbs _ => [.a]
  | .cmpAAbs _ => []
  | .adcAAbs _ => [.a]
  | .sbcAAbs _ => [.a]
  | .movAAbs _ => [.a]
  | .movXAbs _ => [.x]
  | .movYAbs _ => [.y]
  | .cmpXAbs _ => []
  | .cmpYAbs _ => []
  | .orADX _ => [.a]
  | .andADX _ => [.a]
  | .eorADX _ => [.a]
  | .cmpADX _ => []
  | .adcADX _ => [.a]
  | .sbcADX _ => [.a]
  | .movADX _ => [.a]
  | .movXDY _ => [.x]
  | .movYDX _ => [.y]
  | .orAAbsX _ => [.a]
  | .andAAbsX _ => [.a]
  | .eorAAbsX _ => [.a]
  | .cmpAAbsX _ => []
  | .adcAAbsX _ => [.a]
  | .sbcAAbsX _ => [.a]
  | .movAAbsX _ => [.a]
  | .orAAbsY _ => [.a]
  | .andAAbsY _ => [.a]
  | .eorAAbsY _ => [.a]
  | .cmpAAbsY _ => []
  | .adcAAbsY _ => [.a]
  | .sbcAAbsY _ => [.a]
  | .movAAbsY _ => [.a]
  | .orAIndX => [.a]
  | .andAIndX => [.a]
  | .eorAIndX => [.a]
  | .cmpAIndX => []
  | .adcAIndX => [.a]
  | .sbcAIndX => [.a]
  | .movAIndX => [.a]
  | .orAIndDX _ => [.a]
  | .andAIndDX _ => [.a]
  | .eorAIndDX _ => [.a]
  | .cmpAIndDX _ => []
  | .adcAIndDX _ => [.a]
  | .sbcAIndDX _ => [.a]
  | .movAIndDX _ => [.a]
  | .orAIndDY _ => [.a]
  | .andAIndDY _ => [.a]
  | .eorAIndDY _ => [.a]
  | .cmpAIndDY _ => []
  | .adcAIndDY _ => [.a]
  | .sbcAIndDY _ => [.a]
  | .movAIndDY _ => [.a]
  | .movAIndXInc => [.a, .x]
  | .addwYaD _ => [.a, .y]
  | .subwYaD _ => [.a, .y]
  | .movwYaD _ => [.a, .y]
  | .cmpwYaD _ => []
  | .movDA _ => []
  | .movDX _ => []
  | .movDY _ => []
  | .movAbsA _ => []
  | .movAbsX _ => []
  | .movAbsY _ => []
  | .movDXA _ => []
  | .movDYX _ => []
  | .movDXY _ => []
  | .movAbsXA _ => []
  | .movAbsYA _ => []
  | .movIndXA => []
  | .movIndDXA _ => []
  | .movIndDYA _ => []
  | .movIndXIncA => [.x]
  | .movwDYa _ => []
  | .movDImm _ _ => []
  | .aslD _ => []
  | .rolD _ => []
  | .lsrD _ => []
  | .rorD _ => []
  | .decD _ => []
  | .incD _ => []
  | .aslAbs _ => []
  | .rolAbs _ => []
  | .lsrAbs _ => []
  | .rorAbs _ => []
  | .decAbs _ => []
  | .incAbs _ => []
  | .aslDX _ => []
  | .rolDX _ => []
  | .lsrDX _ => []
  | .rorDX _ => []
  | .decDX _ => []
  | .incDX _ => []
  | .decwD _ => []
  | .incwD _ => []
  | .orDdDs _ _ => []
  | .andDdDs _ _ => []
  | .eorDdDs _ _ => []
  | .adcDdDs _ _ => []
  | .sbcDdDs _ _ => []
  | .cmpDdDs _ _ => []
  | .movDdDs _ _ => []
  | .orDImm _ _ => []
  | .andDImm _ _ => []
  | .eorDImm _ _ => []
  | .adcDImm _ _ => []
  | .sbcDImm _ _ => []
  | .cmpDImm _ _ => []
  | .orIndXIndY => []
  | .andIndXIndY => []
  | .eorIndXIndY => []
  | .adcIndXIndY => []
  | .sbcIndXIndY => []
  | .cmpIndXIndY => []
  | .or1CMb _ _ => []
  | .or1CNotMb _ _ => []
  | .and1CMb _ _ => []
  | .and1CNotMb _ _ => []
  | .eor1CMb _ _ => []
  | .mov1CMb _ _ => []
  | .mov1MbC _ _ => []
  | .not1Mb _ _ => []
  | .set1Dbit _ _ => []
  | .clr1Dbit _ _ => []
  | .tset1Abs _ => []
  | .tclr1Abs _ => []
  | .bbsDbitRel _ _ _ => []
  | .bbcDbitRel _ _ _ => []
  | .bplRel _ => []
  | .bmiRel _ => []
  | .bvcRel _ => []
  | .bvsRel _ => []
  | .bccRel _ => []
  | .bcsRel _ => []
  | .bneRel _ => []
  | .beqRel _ => []
  | .braRel _ => []
  | .cbneDRel _ _ => []
  | .cbneDXRel _ _ => []
  | .dbnzDRel _ _ => []
  | .dbnzYRel _ => [.y]
  | .jmpAbs _ => []
  | .jmpIndAbsX _ => []
  | .callAbs _ => [.s]
  | .pcallU _ => [.s]
  | .tcallV _ => [.s]
  | .brk => [.s]
  | .ret => [.s]
  | .reti => [.s]
  | .pushPsw => [.s]
  | .pushA => [.s]
  | .pushX => [.s]
  | .pushY => [.s]
  | .popA => [.a, .s]
  | .popX => [.x, .s]
  | .popY => [.y, .s]
  | .popPsw => [.s]
  | .nop => []
  | .movXA => [.x]
  | .movAX => [.a]
  | .movXSp => [.x]
  | .movSpX => [.s]
  | .movAY => [.a]
  | .movYA => [.y]
  | .aslA => [.a]
  | .rolA => [.a]
  | .lsrA => [.a]
  | .rorA => [.a]
  | .decA => [.a]
  | .incA => [.a]
  | .decX => [.x]
  | .incX => [.x]
  | .decY => [.y]
  | .incY => [.y]
  | .clrp => []
  | .setp => []
  | .clrc => []
  | .setc => []
  | .ei => []
  | .di => []
  | .clrv => []
  | .notc => []
  | .xcnA => [.a]
  | .daaA => [.a]
  | .dasA => [.a]
  | .mulYa => [.a, .y]
  | .divYaX => [.a, .y]
  | .sleep => []
  | .stop => []

/-- The addresses each rule stores to, when it starts (after the opcode fetch) in `s`. -/
def storesTo (i : Instr) (s : State) : List Addr :=
  match i with
  | .orAImm _ => []
  | .andAImm _ => []
  | .eorAImm _ => []
  | .cmpAImm _ => []
  | .adcAImm _ => []
  | .sbcAImm _ => []
  | .movAImm _ => []
  | .movXImm _ => []
  | .movYImm _ => []
  | .cmpXImm _ => []
  | .cmpYImm _ => []
  | .orAD _ => []
  | .andAD _ => []
  | .eorAD _ => []
  | .cmpAD _ => []
  | .adcAD _ => []
  | .sbcAD _ => []
  | .movAD _ => []
  | .movXD _ => []
  | .movYD _ => []
  | .cmpXD _ => []
  | .cmpYD _ => []
  | .orAAbs _ => []
  | .andAAbs _ => []
  | .eorAAbs _ => []
  | .cmpAAbs _ => []
  | .adcAAbs _ => []
  | .sbcAAbs _ => []
  | .movAAbs _ => []
  | .movXAbs _ => []
  | .movYAbs _ => []
  | .cmpXAbs _ => []
  | .cmpYAbs _ => []
  | .orADX _ => []
  | .andADX _ => []
  | .eorADX _ => []
  | .cmpADX _ => []
  | .adcADX _ => []
  | .sbcADX _ => []
  | .movADX _ => []
  | .movXDY _ => []
  | .movYDX _ => []
  | .orAAbsX _ => []
  | .andAAbsX _ => []
  | .eorAAbsX _ => []
  | .cmpAAbsX _ => []
  | .adcAAbsX _ => []
  | .sbcAAbsX _ => []
  | .movAAbsX _ => []
  | .orAAbsY _ => []
  | .andAAbsY _ => []
  | .eorAAbsY _ => []
  | .cmpAAbsY _ => []
  | .adcAAbsY _ => []
  | .sbcAAbsY _ => []
  | .movAAbsY _ => []
  | .orAIndX => []
  | .andAIndX => []
  | .eorAIndX => []
  | .cmpAIndX => []
  | .adcAIndX => []
  | .sbcAIndX => []
  | .movAIndX => []
  | .orAIndDX _ => []
  | .andAIndDX _ => []
  | .eorAIndDX _ => []
  | .cmpAIndDX _ => []
  | .adcAIndDX _ => []
  | .sbcAIndDX _ => []
  | .movAIndDX _ => []
  | .orAIndDY _ => []
  | .andAIndDY _ => []
  | .eorAIndDY _ => []
  | .cmpAIndDY _ => []
  | .adcAIndDY _ => []
  | .sbcAIndDY _ => []
  | .movAIndDY _ => []
  | .movAIndXInc => []
  | .addwYaD _ => []
  | .subwYaD _ => []
  | .movwYaD _ => []
  | .cmpwYaD _ => []
  | .movDA d => [(effectiveAddress (.direct d) s).1]
  | .movDX d => [(effectiveAddress (.direct d) s).1]
  | .movDY d => [(effectiveAddress (.direct d) s).1]
  | .movAbsA a => [(effectiveAddress (.absolute a) s).1]
  | .movAbsX a => [(effectiveAddress (.absolute a) s).1]
  | .movAbsY a => [(effectiveAddress (.absolute a) s).1]
  | .movDXA d => [(effectiveAddress (.directIndexed d .x) s).1]
  | .movDYX d => [(effectiveAddress (.directIndexed d .y) s).1]
  | .movDXY d => [(effectiveAddress (.directIndexed d .x) s).1]
  | .movAbsXA a => [(effectiveAddress (.absoluteIndexed a .x) s).1]
  | .movAbsYA a => [(effectiveAddress (.absoluteIndexed a .y) s).1]
  | .movIndXA => [(effectiveAddress .indirectX s).1]
  | .movIndDXA d => [(effectiveAddress (.indexedIndirect d) s).1]
  | .movIndDYA d => [(effectiveAddress (.indirectIndexed d) s).1]
  | .movIndXIncA => [s.dp s.x]
  | .movwDYa d => [s.dp d, s.dp (d + 1)]
  | .movDImm d _ => [s.dp d]
  | .aslD d => [(effectiveAddress (.direct d) s).1]
  | .rolD d => [(effectiveAddress (.direct d) s).1]
  | .lsrD d => [(effectiveAddress (.direct d) s).1]
  | .rorD d => [(effectiveAddress (.direct d) s).1]
  | .decD d => [(effectiveAddress (.direct d) s).1]
  | .incD d => [(effectiveAddress (.direct d) s).1]
  | .aslAbs a => [(effectiveAddress (.absolute a) s).1]
  | .rolAbs a => [(effectiveAddress (.absolute a) s).1]
  | .lsrAbs a => [(effectiveAddress (.absolute a) s).1]
  | .rorAbs a => [(effectiveAddress (.absolute a) s).1]
  | .decAbs a => [(effectiveAddress (.absolute a) s).1]
  | .incAbs a => [(effectiveAddress (.absolute a) s).1]
  | .aslDX d => [(effectiveAddress (.directIndexed d .x) s).1]
  | .rolDX d => [(effectiveAddress (.directIndexed d .x) s).1]
  | .lsrDX d => [(effectiveAddress (.directIndexed d .x) s).1]
  | .rorDX d => [(effectiveAddress (.directIndexed d .x) s).1]
  | .decDX d => [(effectiveAddress (.directIndexed d .x) s).1]
  | .incDX d => [(effectiveAddress (.directIndexed d .x) s).1]
  | .decwD d => [s.dp d, s.dp (d + 1)]
  | .incwD d => [s.dp d, s.dp (d + 1)]
  | .orDdDs dd _ => [s.dp dd]
  | .andDdDs dd _ => [s.dp dd]
  | .eorDdDs dd _ => [s.dp dd]
  | .adcDdDs dd _ => [s.dp dd]
  | .sbcDdDs dd _ => [s.dp dd]
  | .cmpDdDs _ _ => []
  | .movDdDs dd _ => [s.dp dd]
  | .orDImm d _ => [s.dp d]
  | .andDImm d _ => [s.dp d]
  | .eorDImm d _ => [s.dp d]
  | .adcDImm d _ => [s.dp d]
  | .sbcDImm d _ => [s.dp d]
  | .cmpDImm _ _ => []
  | .orIndXIndY => [s.dp s.x]
  | .andIndXIndY => [s.dp s.x]
  | .eorIndXIndY => [s.dp s.x]
  | .adcIndXIndY => [s.dp s.x]
  | .sbcIndXIndY => [s.dp s.x]
  | .cmpIndXIndY => []
  | .or1CMb _ _ => []
  | .or1CNotMb _ _ => []
  | .and1CMb _ _ => []
  | .and1CNotMb _ _ => []
  | .eor1CMb _ _ => []
  | .mov1CMb _ _ => []
  | .mov1MbC a _ => [a]
  | .not1Mb a _ => [a]
  | .set1Dbit _ d => [s.dp d]
  | .clr1Dbit _ d => [s.dp d]
  | .tset1Abs a => [a]
  | .tclr1Abs a => [a]
  | .bbsDbitRel _ _ _ => []
  | .bbcDbitRel _ _ _ => []
  | .bplRel _ => []
  | .bmiRel _ => []
  | .bvcRel _ => []
  | .bvsRel _ => []
  | .bccRel _ => []
  | .bcsRel _ => []
  | .bneRel _ => []
  | .beqRel _ => []
  | .braRel _ => []
  | .cbneDRel _ _ => []
  | .cbneDXRel _ _ => []
  | .dbnzDRel d _ => [s.dp d]
  | .dbnzYRel _ => []
  | .jmpAbs _ => []
  | .jmpIndAbsX _ => []
  | .callAbs _ => [s.stackAddrAt 0, s.stackAddrAt 1]
  | .pcallU _ => [s.stackAddrAt 0, s.stackAddrAt 1]
  | .tcallV _ => [s.stackAddrAt 0, s.stackAddrAt 1]
  | .brk => [s.stackAddrAt 0, s.stackAddrAt 1, s.stackAddrAt 2]
  | .ret => []
  | .reti => []
  | .pushPsw => [s.stackAddrAt 0]
  | .pushA => [s.stackAddrAt 0]
  | .pushX => [s.stackAddrAt 0]
  | .pushY => [s.stackAddrAt 0]
  | .popA => []
  | .popX => []
  | .popY => []
  | .popPsw => []
  | .nop => []
  | .movXA => []
  | .movAX => []
  | .movXSp => []
  | .movSpX => []
  | .movAY => []
  | .movYA => []
  | .aslA => []
  | .rolA => []
  | .lsrA => []
  | .rorA => []
  | .decA => []
  | .incA => []
  | .decX => []
  | .incX => []
  | .decY => []
  | .incY => []
  | .clrp => []
  | .setp => []
  | .clrc => []
  | .setc => []
  | .ei => []
  | .di => []
  | .clrv => []
  | .notc => []
  | .xcnA => []
  | .daaA => []
  | .dasA => []
  | .mulYa => []
  | .divYaX => []
  | .sleep => []
  | .stop => []

/-- The instructions whose rule sets PC to something other than the address of the next instruction (46, 47). -/
def transfersControl : Instr → Bool
  | .orAImm _ => false
  | .andAImm _ => false
  | .eorAImm _ => false
  | .cmpAImm _ => false
  | .adcAImm _ => false
  | .sbcAImm _ => false
  | .movAImm _ => false
  | .movXImm _ => false
  | .movYImm _ => false
  | .cmpXImm _ => false
  | .cmpYImm _ => false
  | .orAD _ => false
  | .andAD _ => false
  | .eorAD _ => false
  | .cmpAD _ => false
  | .adcAD _ => false
  | .sbcAD _ => false
  | .movAD _ => false
  | .movXD _ => false
  | .movYD _ => false
  | .cmpXD _ => false
  | .cmpYD _ => false
  | .orAAbs _ => false
  | .andAAbs _ => false
  | .eorAAbs _ => false
  | .cmpAAbs _ => false
  | .adcAAbs _ => false
  | .sbcAAbs _ => false
  | .movAAbs _ => false
  | .movXAbs _ => false
  | .movYAbs _ => false
  | .cmpXAbs _ => false
  | .cmpYAbs _ => false
  | .orADX _ => false
  | .andADX _ => false
  | .eorADX _ => false
  | .cmpADX _ => false
  | .adcADX _ => false
  | .sbcADX _ => false
  | .movADX _ => false
  | .movXDY _ => false
  | .movYDX _ => false
  | .orAAbsX _ => false
  | .andAAbsX _ => false
  | .eorAAbsX _ => false
  | .cmpAAbsX _ => false
  | .adcAAbsX _ => false
  | .sbcAAbsX _ => false
  | .movAAbsX _ => false
  | .orAAbsY _ => false
  | .andAAbsY _ => false
  | .eorAAbsY _ => false
  | .cmpAAbsY _ => false
  | .adcAAbsY _ => false
  | .sbcAAbsY _ => false
  | .movAAbsY _ => false
  | .orAIndX => false
  | .andAIndX => false
  | .eorAIndX => false
  | .cmpAIndX => false
  | .adcAIndX => false
  | .sbcAIndX => false
  | .movAIndX => false
  | .orAIndDX _ => false
  | .andAIndDX _ => false
  | .eorAIndDX _ => false
  | .cmpAIndDX _ => false
  | .adcAIndDX _ => false
  | .sbcAIndDX _ => false
  | .movAIndDX _ => false
  | .orAIndDY _ => false
  | .andAIndDY _ => false
  | .eorAIndDY _ => false
  | .cmpAIndDY _ => false
  | .adcAIndDY _ => false
  | .sbcAIndDY _ => false
  | .movAIndDY _ => false
  | .movAIndXInc => false
  | .addwYaD _ => false
  | .subwYaD _ => false
  | .movwYaD _ => false
  | .cmpwYaD _ => false
  | .movDA _ => false
  | .movDX _ => false
  | .movDY _ => false
  | .movAbsA _ => false
  | .movAbsX _ => false
  | .movAbsY _ => false
  | .movDXA _ => false
  | .movDYX _ => false
  | .movDXY _ => false
  | .movAbsXA _ => false
  | .movAbsYA _ => false
  | .movIndXA => false
  | .movIndDXA _ => false
  | .movIndDYA _ => false
  | .movIndXIncA => false
  | .movwDYa _ => false
  | .movDImm _ _ => false
  | .aslD _ => false
  | .rolD _ => false
  | .lsrD _ => false
  | .rorD _ => false
  | .decD _ => false
  | .incD _ => false
  | .aslAbs _ => false
  | .rolAbs _ => false
  | .lsrAbs _ => false
  | .rorAbs _ => false
  | .decAbs _ => false
  | .incAbs _ => false
  | .aslDX _ => false
  | .rolDX _ => false
  | .lsrDX _ => false
  | .rorDX _ => false
  | .decDX _ => false
  | .incDX _ => false
  | .decwD _ => false
  | .incwD _ => false
  | .orDdDs _ _ => false
  | .andDdDs _ _ => false
  | .eorDdDs _ _ => false
  | .adcDdDs _ _ => false
  | .sbcDdDs _ _ => false
  | .cmpDdDs _ _ => false
  | .movDdDs _ _ => false
  | .orDImm _ _ => false
  | .andDImm _ _ => false
  | .eorDImm _ _ => false
  | .adcDImm _ _ => false
  | .sbcDImm _ _ => false
  | .cmpDImm _ _ => false
  | .orIndXIndY => false
  | .andIndXIndY => false
  | .eorIndXIndY => false
  | .adcIndXIndY => false
  | .sbcIndXIndY => false
  | .cmpIndXIndY => false
  | .or1CMb _ _ => false
  | .or1CNotMb _ _ => false
  | .and1CMb _ _ => false
  | .and1CNotMb _ _ => false
  | .eor1CMb _ _ => false
  | .mov1CMb _ _ => false
  | .mov1MbC _ _ => false
  | .not1Mb _ _ => false
  | .set1Dbit _ _ => false
  | .clr1Dbit _ _ => false
  | .tset1Abs _ => false
  | .tclr1Abs _ => false
  | .bbsDbitRel _ _ _ => true
  | .bbcDbitRel _ _ _ => true
  | .bplRel _ => true
  | .bmiRel _ => true
  | .bvcRel _ => true
  | .bvsRel _ => true
  | .bccRel _ => true
  | .bcsRel _ => true
  | .bneRel _ => true
  | .beqRel _ => true
  | .braRel _ => true
  | .cbneDRel _ _ => true
  | .cbneDXRel _ _ => true
  | .dbnzDRel _ _ => true
  | .dbnzYRel _ => true
  | .jmpAbs _ => true
  | .jmpIndAbsX _ => true
  | .callAbs _ => true
  | .pcallU _ => true
  | .tcallV _ => true
  | .brk => true
  | .ret => true
  | .reti => true
  | .pushPsw => false
  | .pushA => false
  | .pushX => false
  | .pushY => false
  | .popA => false
  | .popX => false
  | .popY => false
  | .popPsw => false
  | .nop => false
  | .movXA => false
  | .movAX => false
  | .movXSp => false
  | .movSpX => false
  | .movAY => false
  | .movYA => false
  | .aslA => false
  | .rolA => false
  | .lsrA => false
  | .rorA => false
  | .decA => false
  | .incA => false
  | .decX => false
  | .incX => false
  | .decY => false
  | .incY => false
  | .clrp => false
  | .setp => false
  | .clrc => false
  | .setc => false
  | .ei => false
  | .di => false
  | .clrv => false
  | .notc => false
  | .xcnA => false
  | .daaA => false
  | .dasA => false
  | .mulYa => false
  | .divYaX => false
  | .sleep => false
  | .stop => false

/-- Which port call fetches the first operand byte, the opcode fetch being call number 0 ("call n" of the rules is number
n - 1); 0 where the instruction has no operand byte. -/
def operand1Call : Instr → Nat
  | .orAImm _ => 1
  | .andAImm _ => 1
  | .eorAImm _ => 1
  | .cmpAImm _ => 1
  | .adcAImm _ => 1
  | .sbcAImm _ => 1
  | .movAImm _ => 1
  | .movXImm _ => 1
  | .movYImm _ => 1
  | .cmpXImm _ => 1
  | .cmpYImm _ => 1
  | .orAD _ => 1
  | .andAD _ => 1
  | .eorAD _ => 1
  | .cmpAD _ => 1
  | .adcAD _ => 1
  | .sbcAD _ => 1
  | .movAD _ => 1
  | .movXD _ => 1
  | .movYD _ => 1
  | .cmpXD _ => 1
  | .cmpYD _ => 1
  | .orAAbs _ => 1
  | .andAAbs _ => 1
  | .eorAAbs _ => 1
  | .cmpAAbs _ => 1
  | .adcAAbs _ => 1
  | .sbcAAbs _ => 1
  | .movAAbs _ => 1
  | .movXAbs _ => 1
  | .movYAbs _ => 1
  | .cmpXAbs _ => 1
  | .cmpYAbs _ => 1
  | .orADX _ => 1
  | .andADX _ => 1
  | .eorADX _ => 1
  | .cmpADX _ => 1
  | .adcADX _ => 1
  | .sbcADX _ => 1
  | .movADX _ => 1
  | .movXDY _ => 1
  | .movYDX _ => 1
  | .orAAbsX _ => 1
  | .andAAbsX _ => 1
  | .eorAAbsX _ => 1
  | .cmpAAbsX _ => 1
  | .adcAAbsX _ => 1
  | .sbcAAbsX _ => 1
  | .movAAbsX _ => 1
  | .orAAbsY _ => 1
  | .andAAbsY _ => 1
  | .eorAAbsY _ => 1
  | .cmpAAbsY _ => 1
  | .adcAAbsY _ => 1
  | .sbcAAbsY _ => 1
  | .movAAbsY _ => 1
  | .orAIndX => 0
  | .andAIndX => 0
  | .eorAIndX => 0
  | .cmpAIndX => 0
  | .adcAIndX => 0
  | .sbcAIndX => 0
  | .movAIndX => 0
  | .orAIndDX _ => 1
  | .andAIndDX _ => 1
  | .eorAIndDX _ => 1
  | .cmpAIndDX _ => 1
  | .adcAIndDX _ => 1
  | .sbcAIndDX _ => 1
  | .movAIndDX _ => 1
  | .orAIndDY _ => 1
  | .andAIndDY _ => 1
  | .eorAIndDY _ => 1
  | .cmpAIndDY _ => 1
  | .adcAIndDY _ => 1
  | .sbcAIndDY _ => 1
  | .movAIndDY _ => 1
  | .movAIndXInc => 0
  | .addwYaD _ => 1
  | .subwYaD _ => 1
  | .movwYaD _ => 1
  | .cmpwYaD _ => 1
  | .movDA _ => 1
  | .movDX _ => 1
  | .movDY _ => 1
  | .movAbsA _ => 1
  | .movAbsX _ => 1
  | .movAbsY _ => 1
  | .movDXA _ => 1
  | .movDYX _ => 1
  | .movDXY _ => 1
  | .movAbsXA _ => 1
  | .movAbsYA _ => 1
  | .movIndXA => 0
  | .movIndDXA _ => 1
  | .movIndDYA _ => 1
  | .movIndXIncA => 0
  | .movwDYa _ => 1
  | .movDImm _ _ => 1
  | .aslD _ => 1
  | .rolD _ => 1
  | .lsrD _ => 1
  | .rorD _ => 1
  | .decD _ => 1
  | .incD _ => 1
  | .aslAbs _ => 1
  | .rolAbs _ => 1
  | .lsrAbs _ => 1
  | .rorAbs _ => 1
  | .decAbs _ => 1
  | .incAbs _ => 1
  | .aslDX _ => 1
  | .rolDX _ => 1
  | .lsrDX _ => 1
  | .rorDX _ => 1
  | .decDX _ => 1
  | .incDX _ => 1
  | .decwD _ => 1
  | .incwD _ => 1
  | .orDdDs _ _ => 1
  | .andDdDs _ _ => 1
  | .eorDdDs _ _ => 1
  | .adcDdDs _ _ => 1
  | .sbcDdDs _ _ => 1
  | .cmpDdDs _ _ => 1
  | .movDdDs _ _ => 1
  | .orDImm _ _ => 1
  | .andDImm _ _ => 1
  | .eorDImm _ _ => 1
  | .adcDImm _ _ => 1
  | .sbcDImm _ _ => 1
  | .cmpDImm _ _ => 1
  | .orIndXIndY => 0
  | .andIndXIndY => 0
  | .eorIndXIndY => 0
  | .adcIndXIndY => 0
  | .sbcIndXIndY => 0
  | .cmpIndXIndY => 0
  | .or1CMb _ _ => 1
  | .or1CNotMb _ _ => 1
  | .and1CMb _ _ => 1
  | .and1CNotMb _ _ => 1
  | .eor1CMb _ _ => 1
  | .mov1CMb _ _ => 1
  | .mov1MbC _ _ => 1
  | .not1Mb _ _ => 1
  | .set1Dbit _ _ => 1
  | .clr1Dbit _ _ => 1
  | .tset1Abs _ => 1
  | .tclr1Abs _ => 1
  | .bbsDbitRel _ _ _ => 1
  | .bbcDbitRel _ _ _ => 1
  | .bplRel _ => 1
  | .bmiRel _ => 1
  | .bvcRel _ => 1
  | .bvsRel _ => 1
  | .bccRel _ => 1
  | .bcsRel _ => 1
  | .bneRel _ => 1
  | .beqRel _ => 1
  | .braRel _ => 1
  | .cbneDRel _ _ => 1
  | .cbneDXRel _ _ => 1
  | .dbnzDRel _ _ => 1
  | .dbnzYRel _ => 3
  | .jmpAbs _ => 1
  | .jmpIndAbsX _ => 1
  | .callAbs _ => 1
  | .pcallU _ => 1
  | .tcallV _ => 0
  | .brk => 0
  | .ret => 0
  | .reti => 0
  | .pushPsw => 0
  | .pushA => 0
  | .pushX => 0
  | .pushY => 0
  | .popA => 0
  | .popX => 0
  | .popY => 0
  | .popPsw => 0
  | .nop => 0
  | .movXA => 0
  | .movAX => 0
  | .movXSp => 0
  | .movSpX => 0
  | .movAY => 0
  | .movYA => 0
  | .aslA => 0
  | .rolA => 0
  | .lsrA => 0
  | .rorA => 0
  | .decA => 0
  | .incA => 0
  | .decX => 0
  | .incX => 0
  | .decY => 0
  | .incY => 0
  | .clrp => 0
  | .setp => 0
  | .clrc => 0
  | .setc => 0
  | .ei => 0
  | .di => 0
  | .clrv => 0
  | .notc => 0
  | .xcnA => 0
  | .daaA => 0
  | .dasA => 0
  | .mulYa => 0
  | .divYaX => 0
  | .sleep => 0
  | .stop => 0

/-- Which port call fetches the second operand byte, counted in the same way; 0 where there is none. -/
def operand2Call : Instr → Nat
  | .orAImm _ => 0
  | .andAImm _ => 0
  | .eorAImm _ => 0
  | .cmpAImm _ => 0
  | .adcAImm _ => 0
  | .sbcAImm _ => 0
  | .movAImm _ => 0
  | .movXImm _ => 0
  | .movYImm _ => 0
  | .cmpXImm _ => 0
  | .cmpYImm _ => 0
  | .orAD _ => 0
  | .andAD _ => 0
  | .eorAD _ => 0
  | .cmpAD _ => 0
  | .adcAD _ => 0
  | .sbcAD _ => 0
  | .movAD _ => 0
  | .movXD _ => 0
  | .movYD _ => 0
  | .cmpXD _ => 0
  | .cmpYD _ => 0
  | .orAAbs _ => 2
  | .andAAbs _ => 2
  | .eorAAbs _ => 2
  | .cmpAAbs _ => 2
  | .adcAAbs _ => 2
  | .sbcAAbs _ => 2
  | .movAAbs _ => 2
  | .movXAbs _ => 2
  | .movYAbs _ => 2
  | .cmpXAbs _ => 2
  | .cmpYAbs _ => 2
  | .orADX _ => 0
  | .andADX _ => 0
  | .eorADX _ => 0
  | .cmpADX _ => 0
  | .adcADX _ => 0
  | .sbcADX _ => 0
  | .movADX _ => 0
  | .movXDY _ => 0
  | .movYDX _ => 0
  | .orAAbsX _ => 2
  | .andAAbsX _ => 2
  | .eorAAbsX _ => 2
  | .cmpAAbsX _ => 2
  | .adcAAbsX _ => 2
  | .sbcAAbsX _ => 2
  | .movAAbsX _ => 2
  | .orAAbsY _ => 2
  | .andAAbsY _ => 2
  | .eorAAbsY _ => 2
  | .cmpAAbsY _ => 2
  | .adcAAbsY _ => 2
  | .sbcAAbsY _ => 2
  | .movAAbsY _ => 2
  | .orAIndX => 0
  | .andAIndX => 0
  | .eorAIndX => 0
  | .cmpAIndX => 0
  | .adcAIndX => 0
  | .sbcAIndX => 0
  | .movAIndX => 0
  | .orAIndDX _ => 0
  | .andAIndDX _ => 0
  | .eorAIndDX _ => 0
  | .cmpAIndDX _ => 0
  | .adcAIndDX _ => 0
  | .sbcAIndDX _ => 0
  | .movAIndDX _ => 0
  | .orAIndDY _ => 0
  | .andAIndDY _ => 0
  | .eorAIndDY _ => 0
  | .cmpAIndDY _ => 0
  | .adcAIndDY _ => 0
  | .sbcAIndDY _ => 0
  | .movAIndDY _ => 0
  | .movAIndXInc => 0
  | .addwYaD _ => 0
  | .subwYaD _ => 0
  | .movwYaD _ => 0
  | .cmpwYaD _ => 0
  | .movDA _ => 0
  | .movDX _ => 0
  | .movDY _ => 0
  | .movAbsA _ => 2
  | .movAbsX _ => 2
  | .movAbsY _ => 2
  | .movDXA _ => 0
  | .movDYX _ => 0
  | .movDXY _ => 0
  | .movAbsXA _ => 2
  | .movAbsYA _ => 2
  | .movIndXA => 0
  | .movIndDXA _ => 0
  | .movIndDYA _ => 0
  | .movIndXIncA => 0
  | .movwDYa _ => 0
  | .movDImm _ _ => 2
  | .aslD _ => 0
  | .rolD _ => 0
  | .lsrD _ => 0
  | .rorD _ => 0
  | .decD _ => 0
  | .incD _ => 0
  | .aslAbs _ => 2
  | .rolAbs _ => 2
  | .lsrAbs _ => 2
  | .rorAbs _ => 2
  | .decAbs _ => 2
  | .incAbs _ => 2
  | .aslDX _ => 0
  | .rolDX _ => 0
  | .lsrDX _ => 0
  | .rorDX _ => 0
  | .decDX _ => 0
  | .incDX _ => 0
  | .decwD _ => 0
  | .incwD _ => 0
  | .orDdDs _ _ => 3
  | .andDdDs _ _ => 3
  | .eorDdDs _ _ => 3
  | .adcDdDs _ _ => 3
  | .sbcDdDs _ _ => 3
  | .cmpDdDs _ _ => 3
  | .movDdDs _ _ => 3
  | .orDImm _ _ => 2
  | .andDImm _ _ => 2
  | .eorDImm _ _ => 2
  | .adcDImm _ _ => 2
  | .sbcDImm _ _ => 2
  | .cmpDImm _ _ => 2
  | .orIndXIndY => 0
  | .andIndXIndY => 0
  | .eorIndXIndY => 0
  | .adcIndXIndY => 0
  | .sbcIndXIndY => 0
  | .cmpIndXIndY => 0
  | .or1CMb _ _ => 2
  | .or1CNotMb _ _ => 2
  | .and1CMb _ _ => 2
  | .and1CNotMb _ _ => 2
  | .eor1CMb _ _ => 2
  | .mov1CMb _ _ => 2
  | .mov1MbC _ _ => 2
  | .not1Mb _ _ => 2
  | .set1Dbit _ _ => 0
  | .clr1Dbit _ _ => 0
  | .tset1Abs _ => 2
  | .tclr1Abs _ => 2
  | .bbsDbitRel _ _ _ => 4
  | .bbcDbitRel _ _ _ => 4
  | .bplRel _ => 0
  | .bmiRel _ => 0
  | .bvcRel _ => 0
  | .bvsRel _ => 0
  | .bccRel _ => 0
  | .bcsRel _ => 0
  | .bneRel _ => 0
  | .beqRel _ => 0
  | .braRel _ => 0
  | .cbneDRel _ _ => 4
  | .cbneDXRel _ _ => 5
  | .dbnzDRel _ _ => 4
  | .dbnzYRel _ => 0
  | .jmpAbs _ => 2
  | .jmpIndAbsX _ => 2
  | .callAbs _ => 2
  | .pcallU _ => 0
  | .tcallV _ => 0
  | .brk => 0
  | .ret => 0
  | .reti => 0
  | .pushPsw => 0
  | .pushA => 0
  | .pushX => 0
  | .pushY => 0
  | .popA => 0
  | .popX => 0
  | .popY => 0
  | .popPsw => 0
  | .nop => 0
  | .movXA => 0
  | .movAX => 0
  | .movXSp => 0
  | .movSpX => 0
  | .movAY => 0
  | .movYA => 0
  | .aslA => 0
  | .rolA => 0
  | .lsrA => 0
  | .rorA => 0
  | .decA => 0
  | .incA => 0
  | .decX => 0
  | .incX => 0
  | .decY => 0
  | .incY => 0
  | .clrp => 0
  | .setp => 0
  | .clrc => 0
  | .setc => 0
  | .ei => 0
  | .di => 0
  | .clrv => 0
  | .notc => 0
  | .xcnA => 0
  | .daaA => 0
  | .dasA => 0
  | .mulYa => 0
  | .divYaX => 0
  | .sleep => 0
  | .stop => 0

/-! ### The grids, row by row, as they stand in the spec -/

/-- The length of the instruction at each opcode value (the grid of R71). -/
def lengthGrid : List (List Nat) :=
  [[1, 1, 2, 3, 2, 3, 1, 2, 2, 3, 3, 2, 3, 1, 3, 1],
   [2, 1, 2, 3, 2, 3, 3, 2, 3, 1, 2, 2, 1, 1, 3, 3],
   [1, 1, 2, 3, 2, 3, 1, 2, 2, 3, 3, 2, 3, 1, 3, 2],
   [2, 1, 2, 3, 2, 3, 3, 2, 3, 1, 2, 2, 1, 1, 2, 3],
   [1, 1, 2, 3, 2, 3, 1, 2, 2, 3, 3, 2, 3, 1, 3, 2],
   [2, 1, 2, 3, 2, 3, 3, 2, 3, 1, 2, 2, 1, 1, 3, 3],
   [1, 1, 2, 3, 2, 3, 1, 2, 2, 3, 3, 2, 3, 1, 3, 1],
   [2, 1, 2, 3, 2, 3, 3, 2, 3, 1, 2, 2, 1, 1, 2, 1],
   [1, 1, 2, 3, 2, 3, 1, 2, 2, 3, 3, 2, 3, 2, 1, 3],
   [2, 1, 2, 3, 2, 3, 3, 2, 3, 1, 2, 2, 1, 1, 1, 1],
   [1, 1, 2, 3, 2, 3, 1, 2, 2, 3, 3, 2, 3, 2, 1, 1],
   [2, 1, 2, 3, 2, 3, 3, 2, 3, 1, 2, 2, 1, 1, 1, 1],
   [1, 1, 2, 3, 2, 3, 1, 2, 2, 3, 3, 2, 3, 2, 1, 1],
   [2, 1, 2, 3, 2, 3, 3, 2, 2, 2, 2, 2, 1, 1, 3, 1],
   [1, 1, 2, 3, 2, 3, 1, 2, 2, 3, 3, 2, 3, 1, 1, 1],
   [2, 1, 2, 3, 2, 3, 3, 2, 2, 2, 3, 2, 1, 1, 2, 1]]

/-- The number of port calls of each opcode (the grid of R440): the number before the slash of a branch, and the 1 of `1+2N`. -/
def callGrid : List (List Nat) :=
  [[2, 8, 4, 5, 3, 4, 3, 6, 2, 6, 5, 4, 5, 4, 6, 8],
   [2, 8, 4, 5, 4, 5, 5, 6, 5, 5, 6, 5, 2, 2, 4, 6],
   [2, 8, 4, 5, 3, 4, 3, 6, 2, 6, 5, 4, 5, 4, 5, 4],
   [2, 8, 4, 5, 4, 5, 5, 6, 5, 5, 6, 5, 2, 2, 3, 8],
   [2, 8, 4, 5, 3, 4, 3, 6, 2, 6, 4, 4, 5, 4, 6, 6],
   [2, 8, 4, 5, 4, 5, 5, 6, 5, 5, 4, 5, 2, 2, 4, 3],
   [2, 8, 4, 5, 3, 4, 3, 6, 2, 6, 4, 4, 5, 4, 5, 5],
   [2, 8, 4, 5, 4, 5, 5, 6, 5, 5, 5, 5, 2, 2, 3, 6],
   [2, 8, 4, 5, 3, 4, 3, 6, 2, 6, 5, 4, 5, 2, 4, 5],
   [2, 8, 4, 5, 4, 5, 5, 6, 5, 5, 5, 5, 2, 2, 12, 5],
   [3, 8, 4, 5, 3, 4, 3, 6, 2, 6, 4, 4, 5, 2, 4, 4],
   [2, 8, 4, 5, 4, 5, 5, 6, 5, 5, 5, 5, 2, 2, 3, 4],
   [3, 8, 4, 5, 4, 5, 4, 7, 2, 5, 6, 4, 5, 2, 4, 9],
   [2, 8, 4, 5, 5, 6, 6, 7, 4, 5, 5, 5, 2, 2, 6, 3],
   [2, 8, 4, 5, 3, 4, 3, 6, 2, 4, 5, 3, 4, 3, 4, 1],
   [2, 8, 4, 5, 4, 5, 5, 6, 3, 4, 5, 4, 2, 2, 4, 1]]

/-- The opcodes whose cell of the grid of R440 has the form `a/b`, where b = a + 2. -/
def slashGrid : List (List Bool) :=
  [[false, false, false, true, false, false, false, false, false, false, false, false, false, false, false, false],
   [true, false, false, true, false, false, false, false, false, false, false, false, false, false, false, false],
   [false, false, false, true, false, false, false, false, false, false, false, false, false, false, true, false],
   [true, false, false, true, false, false, false, false, false, false, false, false, false, false, false, false],
   [false, false, false, true, false, false, false, false, false, false, false, false, false, false, false, false],
   [true, false, false, true, false, false, false, false, false, false, false, false, false, false, false, false],
   [false, false, false, true, false, false, false, false, false, false, false, false, false, false, true, false],
   [true, false, false, true, false, false, false, false, false, false, false, false, false, false, false, false],
   [false, false, false, true, false, false, false, false, false, false, false, false, false, false, false, false],
   [true, false, false, true, false, false, false, false, false, false, false, false, false, false, false, false],
   [false, false, false, true, false, false, false, false, false, false, false, false, false, false, false, false],
   [true, false, false, true, false, false, false, false, false, false, false, false, false, false, false, false],
   [false, false, false, true, false, false, false, false, false, false, false, false, false, false, false, false],
   [true, false, false, true, false, false, false, false, false, false, false, false, false, false, true, false],
   [false, false, false, true, false, false, false, false, false, false, false, false, false, false, false, false],
   [true, false, false, true, false, false, false, false, false, false, false, false, false, false, true, false]]

/-- The cell of a grid at an opcode: row `op[7:4]`, column `op[3:0]`. -/
def cellAt {α : Type} (grid : List (List α)) (default : α) (op : Byte) : α :=
  (grid.getD (op.toNat / 16) []).getD (op.toNat % 16) default

/-! ### Which constructor is which executor's instance (the `bound` column of opcode_table.json) -/

/-- The instruction of a read executor: algorithm, destination register, operand form (R131 to R196). -/
def readInstr : Alu2 → Reg → Mode → Option Instr
  | .or, .a, .direct d => some (.orAD d)
  | .and, .a, .direct d => some (.andAD d)
  | .eor, .a, .direct d => some (.eorAD d)
  | .cmp, .a, .direct d => some (.cmpAD d)
  | .adc, .a, .direct d => some (.adcAD d)
  | .sbc, .a, .direct d => some (.sbcAD d)
  | .ld, .a, .direct d => some (.movAD d)
  | .ld, .x, .direct d => some (.movXD d)
  | .ld, .y, .direct d => some (.movYD d)
  | .cmp, .x, .direct d => some (.cmpXD d)
  | .cmp, .y, .direct d => some (.cmpYD d)
  | .or, .a, .absolute a => some (.orAAbs a)
  | .and, .a, .absolute a => some (.andAAbs a)
  | .eor, .a, .absolute a => some (.eorAAbs a)
  | .cmp, .a, .absolute a => some (.cmpAAbs a)
  | .adc, .a, .absolute a => some (.adcAAbs a)
  | .sbc, .a, .absolute a => some (.sbcAAbs a)
  | .ld, .a, .absolute a => some (.movAAbs a)
  | .ld, .x, .absolute a => some (.movXAbs a)
  | .ld, .y, .absolute a => some (.movYAbs a)
  | .cmp, .x, .absolute a => some (.cmpXAbs a)
  | .cmp, .y, .absolute a => some (.cmpYAbs a)
  | .or, .a, .directIndexed d .x => some (.orADX d)
  | .and, .a, .directIndexed d .x => some (.andADX d)
  | .eor, .a, .directIndexed d .x => some (.eorADX d)
  | .cmp, .a, .directIndexed d .x => some (.cmpADX d)
  | .adc, .a, .directIndexed d .x => some (.adcADX d)
  | .sbc, .a, .directIndexed d .x => some (.sbcADX d)
  | .ld, .a, .directIndexed d .x => some (.movADX d)
  | .ld, .x, .directIndexed d .y => some (.movXDY d)
  | .ld, .y, .directIndexed d .x => some (.movYDX d)
  | .or, .a, .absoluteIndexed a .x => some (.orAAbsX a)
  | .and, .a, .absoluteIndexed a .x => some (.andAAbsX a)
  | .eor, .a, .absoluteIndexed a .x => some (.eorAAbsX a)
  | .cmp, .a, .absoluteIndexed a .x => some (.cmpAAbsX a)
  | .adc, .a, .absoluteIndexed a .x => some (.adcAAbsX a)
  | .sbc, .a, .absoluteIndexed a .x => some (.sbcAAbsX a)
  | .ld, .a, .absoluteIndexed a .x => some (.movAAbsX a)
  | .or, .a, .absoluteIndexed a .y => some (.orAAbsY a)
  | .and, .a, .absoluteIndexed a .y => some (.andAAbsY a)
  | .eor, .a, .absoluteIndexed a .y => some (.eorAAbsY a)
  | .cmp, .a, .absoluteIndexed a .y => some (.cmpAAbsY a)
  | .adc, .a, .absoluteIndexed a .y => some (.adcAAbsY a)
  | .sbc, .a, .absoluteIndexed a .y => some (.sbcAAbsY a)
  | .ld, .a, .absoluteIndexed a .y => some (.movAAbsY a)
  | .or, .a, .indirectX => some (.orAIndX)
  | .and, .a, .indirectX => some (.andAIndX)
  | .eor, .a, .indirectX => some (.eorAIndX)
  | .cmp, .a, .indirectX => some (.cmpAIndX)
  | .adc, .a, .indirectX => some (.adcAIndX)
  | .sbc, .a, .indirectX => some (.sbcAIndX)
  | .ld, .a, .indirectX => some (.movAIndX)
  | .or, .a, .indexedIndirect d => some (.orAIndDX d)
  | .and, .a, .indexedIndirect d => some (.andAIndDX d)
  | .eor, .a, .indexedIndirect d => some (.eorAIndDX d)
  | .cmp, .a, .indexedIndirect d => some (.cmpAIndDX d)
  | .adc, .a, .indexedIndirect d => some (.adcAIndDX d)
  | .sbc, .a, .indexedIndirect d => some (.sbcAIndDX d)
  | .ld, .a, .indexedIndirect d => some (.movAIndDX d)
  | .or, .a, .indirectIndexed d => some (.orAIndDY d)
  | .and, .a, .indirectIndexed d => some (.andAIndDY d)
  | .eor, .a, .indirectIndexed d => some (.eorAIndDY d)
  | .cmp, .a, .indirectIndexed d => some (.cmpAIndDY d)
  | .adc, .a, .indirectIndexed d => some (.adcAIndDY d)
  | .sbc, .a, .indirectIndexed d => some (.sbcAIndDY d)
  | .ld, .a, .indirectIndexed d => some (.movAIndDY d)
  | _, _, _ => none

/-- The instruction of `ImmediateRead` (R120 to R130). -/
def immediateInstr : Alu2 → Reg → Option (Byte → Instr)
  | .or, .a => some .orAImm
  | .and, .a => some .andAImm
  | .eor, .a => some .eorAImm
  | .cmp, .a => some .cmpAImm
  | .adc, .a => some .adcAImm
  | .sbc, .a => some .sbcAImm
  | .ld, .a => some .movAImm
  | .ld, .x => some .movXImm
  | .ld, .y => some .movYImm
  | .cmp, .x => some .cmpXImm
  | .cmp, .y => some .cmpYImm
  | _, _ => none

/-- The instruction of a store executor: source register, operand form (R202 to R215). -/
def storeInstr : Reg → Mode → Option Instr
  | .a, .direct d => some (.movDA d)
  | .x, .direct d => some (.movDX d)
  | .y, .direct d => some (.movDY d)
  | .a, .absolute a => some (.movAbsA a)
  | .x, .absolute a => some (.movAbsX a)
  | .y, .absolute a => some (.movAbsY a)
  | .a, .directIndexed d .x => some (.movDXA d)
  | .x, .directIndexed d .y => some (.movDYX d)
  | .y, .directIndexed d .x => some (.movDXY d)
  | .a, .absoluteIndexed a .x => some (.movAbsXA a)
  | .a, .absoluteIndexed a .y => some (.movAbsYA a)
  | .a, .indirectX => some (.movIndXA)
  | .a, .indexedIndirect d => some (.movIndDXA d)
  | .a, .indirectIndexed d => some (.movIndDYA d)
  | _, _ => none

/-- The instruction of a modify executor: algorithm, operand form (R219 to R236). -/
def modifyInstr : Alu1 → Mode → Option Instr
  | .asl, .direct d => some (.aslD d)
  | .rol, .direct d => some (.rolD d)
  | .lsr, .direct d => some (.lsrD d)
  | .ror, .direct d => some (.rorD d)
  | .dec, .direct d => some (.decD d)
  | .inc, .direct d => some (.incD d)
  | .asl, .absolute a => some (.aslAbs a)
  | .rol, .absolute a => some (.rolAbs a)
  | .lsr, .absolute a => some (.lsrAbs a)
  | .ror, .absolute a => some (.rorAbs a)
  | .dec, .absolute a => some (.decAbs a)
  | .inc, .absolute a => some (.incAbs a)
  | .asl, .directIndexed d .x => some (.aslDX d)
  | .rol, .directIndexed d .x => some (.rolDX d)
  | .lsr, .directIndexed d .x => some (.lsrDX d)
  | .ror, .directIndexed d .x => some (.rorDX d)
  | .dec, .directIndexed d .x => some (.decDX d)
  | .inc, .directIndexed d .x => some (.incDX d)
  | _, _ => none

/-- The instruction of `DirectDirectModify` (R239 to R243). -/
def directDirectInstr : Alu2 → Option (Byte → Byte → Instr)
  | .or => some .orDdDs
  | .and => some .andDdDs
  | .eor => some .eorDdDs
  | .adc => some .adcDdDs
  | .sbc => some .sbcDdDs
  | .cmp => none
  | .ld => none

/-- The instruction of `DirectImmediateModify` (R246 to R250). -/
def directImmediateInstr : Alu2 → Option (Byte → Byte → Instr)
  | .or => some .orDImm
  | .and => some .andDImm
  | .eor => some .eorDImm
  | .adc => some .adcDImm
  | .sbc => some .sbcDImm
  | .cmp => none
  | .ld => none

/-- The instruction of `IndirectXWriteIndirectY` (R252 to R256). -/
def indirectPairInstr : Alu2 → Option Instr
  | .or => some .orIndXIndY
  | .and => some .andIndXIndY
  | .eor => some .eorIndXIndY
  | .adc => some .adcIndXIndY
  | .sbc => some .sbcIndXIndY
  | .cmp => none
  | .ld => none

/-- The instruction of `ImpliedModify` (R309 to R318). -/
def impliedInstr : Alu1 → Reg → Option Instr
  | .asl, .a => some .aslA
  | .rol, .a => some .rolA
  | .lsr, .a => some .lsrA
  | .ror, .a => some .rorA
  | .dec, .a => some .decA
  | .inc, .a => some .incA
  | .dec, .x => some .decX
  | .inc, .x => some .incX
  | .dec, .y => some .decY
  | .inc, .y => some .incY
  | _, _ => none

end Sys2Proof.Machine
end

