-- ==== Sys2Proof/Certificates/Slice0/Obligations.lean ====
section
/-! DEFINITION. Obligations.lean: the statements about the model, from the numbered rules of spec/. In a statement about
`exec`, `s` is the state after the opcode fetch, which is where every rule's pseudocode starts ("opcode byte already
fetched"): PC is at the byte after the opcode. `s.port.upcoming n a` is what the read number `n` from there (0 is the
first) is answered with if it reads `a`. -/

open Sys2Proof Sys2Proof.Machine

/-! ### Reset and the host's calls -/

/-- R30, R430: `power()` writes the same fixed record whatever the state was and leaves the port alone, and the reset state
is that record. -/
def Obligations.PowerWritesResetRecord : Prop :=
  (∀ s : State, power s =
    { pc := 0x0000, a := 0x00, y := 0x00, x := 0x00, sp := 0xEF,
      flags := { cf := false, zf := true, iflag := false, hf := false, bf := false, pf := false, vf := false, nf := false },
      wait := false, stop := false, port := s.port }) ∧
  State.reset = power State.reset

/-- R433, R434: the image is 16 bytes, the fields in their order, PC low byte first, one byte per boolean. -/
def Obligations.SerializeImageLayout : Prop :=
  ∀ s : State,
    (serialize s).length = 16 ∧
    (serialize s).map BitVec.toNat =
      [s.pc.toNat % 256, s.pc.toNat / 256, s.a.toNat, s.y.toNat, s.x.toNat, s.sp.toNat,
       s.flags.cf.toNat, s.flags.zf.toNat, s.flags.iflag.toNat, s.flags.hf.toNat, s.flags.bf.toNat, s.flags.pf.toNat,
       s.flags.vf.toNat, s.flags.nf.toNat, s.wait.toNat, s.stop.toNat]

/-- R435: deserializing a serialized state reproduces the whole record, into any state and whatever follows in the buffer;
the port is not called. -/
def Obligations.SerializeRoundTrip : Prop :=
  ∀ (s t : State) (rest : List Byte), deserialize (serialize s ++ rest) t = (true, { s with port := t.port })

/-- R436: fewer than 16 bytes answer false and change nothing; 16 or more answer true and give every field the value of its
byte, a boolean being true exactly when its byte is not 0x00; the port is not called. -/
def Obligations.DeserializeAcceptsAnyImage : Prop :=
  ∀ (buf : List Byte) (s : State),
    (buf.length < 16 → deserialize buf s = (false, s)) ∧
    (16 ≤ buf.length →
      (deserialize buf s).1 = true ∧
      (deserialize buf s).2.pc.toNat = (buf.getD 1 0).toNat * 256 + (buf.getD 0 0).toNat ∧
      (deserialize buf s).2.a = buf.getD 2 0 ∧ (deserialize buf s).2.y = buf.getD 3 0 ∧
      (deserialize buf s).2.x = buf.getD 4 0 ∧ (deserialize buf s).2.sp = buf.getD 5 0 ∧
      ((deserialize buf s).2.flags.cf = true ↔ buf.getD 6 0 ≠ 0) ∧ ((deserialize buf s).2.flags.zf = true ↔ buf.getD 7 0 ≠ 0) ∧
      ((deserialize buf s).2.flags.iflag = true ↔ buf.getD 8 0 ≠ 0) ∧
      ((deserialize buf s).2.flags.hf = true ↔ buf.getD 9 0 ≠ 0) ∧
      ((deserialize buf s).2.flags.bf = true ↔ buf.getD 10 0 ≠ 0) ∧
      ((deserialize buf s).2.flags.pf = true ↔ buf.getD 11 0 ≠ 0) ∧
      ((deserialize buf s).2.flags.vf = true ↔ buf.getD 12 0 ≠ 0) ∧
      ((deserialize buf s).2.flags.nf = true ↔ buf.getD 13 0 ≠ 0) ∧
      ((deserialize buf s).2.wait = true ↔ buf.getD 14 0 ≠ 0) ∧ ((deserialize buf s).2.stop = true ↔ buf.getD 15 0 ≠ 0) ∧
      (deserialize buf s).2.port = s.port)

/-! ### Encoding -/

/-- R71, R73, R74, R77: words written out from the formats, at least one of every format, decode to the instruction they
stand for. -/
def Obligations.WordsDecodeAsTheFormatsSay : Prop :=
  decodeOp 0x88 0x04 0x00 = .adcAImm 0x04 ∧
  decodeOp 0xF4 0x10 0x00 = .movADX 0x10 ∧
  decodeOp 0x17 0x10 0x00 = .orAIndDY 0x10 ∧
  decodeOp 0xC5 0x34 0x12 = .movAbsA 0x1234 ∧
  decodeOp 0x5B 0x40 0x00 = .lsrDX 0x40 ∧
  decodeOp 0x09 0x20 0x10 = .orDdDs 0x10 0x20 ∧
  decodeOp 0x8F 0x55 0x10 = .movDImm 0x10 0x55 ∧
  decodeOp 0xEA 0x34 0xB2 = .not1Mb 0x1234 5 ∧
  decodeOp 0x62 0x10 0x00 = .set1Dbit 3 0x10 ∧
  decodeOp 0xF3 0x10 0xFE = .bbcDbitRel 7 0x10 0xFE ∧
  decodeOp 0xD0 0xF6 0x00 = .bneRel 0xF6 ∧
  decodeOp 0x6E 0x10 0xFB = .dbnzDRel 0x10 0xFB ∧
  decodeOp 0x4F 0x80 0x00 = .pcallU 0x80 ∧
  decodeOp 0xB1 0x00 0x00 = .tcallV 11 ∧
  decodeOp 0x9E 0x00 0x00 = .divYaX ∧
  decodeOp 0xEF 0x00 0x00 = .sleep

/-- R71, R73: for every well-formed instruction, decoding its bytes gives it back, every operand at every value its field
admits, and leaves the bytes that follow. -/
def Obligations.DecodeOfEncode : Prop :=
  ∀ (i : Instr) (rest : List Byte), i.WellFormed → decode (encode i ++ rest) = .ok (i, rest)

/-- R71, R73, R78: every opcode byte with any operand bytes is a well-formed instruction, of the length the grid of R71
gives that opcode, and encoding it gives the bytes back: no bit of them is dropped. -/
def Obligations.EveryOpcodeDecodesAndReencodes : Prop :=
  ∀ op b1 b2 : Byte,
    (decodeOp op b1 b2).WellFormed ∧
    (decodeOp op b1 b2).length = cellAt lengthGrid 0 op ∧
    encode (decodeOp op b1 b2) = [op, b1, b2].take (cellAt lengthGrid 0 op)

/-- R71, R78: a byte list is rejected only when it is empty or ends inside its instruction, and then by name. The two names
are the model's own (log entry 15). -/
def Obligations.DecodeRejectsOnlyTruncation : Prop :=
  decode [] = .error .noOpcode ∧
  ∀ (op : Byte) (rest : List Byte),
    decode (op :: rest) =
      if rest.length + 1 < cellAt lengthGrid 0 op then .error (.truncated op)
      else .ok (decodeOp op (rest.getD 0 0) (rest.getD 1 0), rest.drop (cellAt lengthGrid 0 op - 1))

/-! ### The step -/

/-- R72: when the core is not halted, the bytes that the fetches of the step are answered with decode to an instruction, and
the step is the opcode fetch (one read of PC, PC + 1) followed by that instruction's rule. -/
def Obligations.StepRunsDecodedInstruction : Prop :=
  (∀ s : State, ∃ i rest, decode (fetchedBytes s) = .ok (i, rest) ∧ i.WellFormed) ∧
  ∀ (s : State) (i : Instr) (rest : List Byte),
    s.wait = false → s.stop = false → decode (fetchedBytes s) = .ok (i, rest) →
      step s = exec i { s with pc := s.pc + 1, port := s.port.perform (.read s.pc) }

/-- R46, R58: on the reference port, with no scripted answer, those bytes are the three bytes of memory at PC. Where
`DBNZ d,r` decrements its own displacement byte before it fetches it (R284), the third byte is the decremented one: that
clause is the model's reading (log entry 7). -/
def Obligations.FetchedBytesAreMemory : Prop :=
  ∀ s : State, s.port.answers = [] → s.port.mem.wf = true →
    let m := fun a : Addr => s.port.mem.readByte a.toNat
    fetchedBytes s =
      [m s.pc, m (s.pc + 1),
       if m s.pc = 0x6E ∧ s.dp (m (s.pc + 1)) = s.pc + 2 then m (s.pc + 2) - 1 else m (s.pc + 2)]

/-- R46, R55, R56: the opcode and operand bytes that the decoder is given are the answers of port reads which the step
makes, at the call numbers of the rules and at ascending addresses from PC; none is taken without its port call. -/
def Obligations.OperandBytesAreFetched : Prop :=
  ∀ s t : State, s.wait = false → s.stop = false → step s = .next t →
    let i := fetchedInstr s
    t.port.callSince s.port 0 = some (.read s.pc ((fetchedBytes s).getD 0 0)) ∧
    (2 ≤ i.length →
      t.port.callSince s.port (operand1Call i) = some (.read (s.pc + 1) ((fetchedBytes s).getD 1 0))) ∧
    (3 ≤ i.length →
      t.port.callSince s.port (operand2Call i) = some (.read (s.pc + 2) ((fetchedBytes s).getD 2 0)))

/-- R400, R401, R405: a step is total; it is the halted step when a halted sub-state is set and otherwise the fetched
instruction's rule, and neither a step nor a rule ever ends in an error. That the halted step, `SLEEP` and `STOP` come to an end
from every state is the model's choice: when the scripted `Sync()` answers are used up, the answer is true (log entry 3), where
R334 and R441 let the halt loop go on for ever. -/
def Obligations.EveryStepCompletes : Prop :=
  (∀ s : State, ∃ t, step s = .next t) ∧
  (∀ (i : Instr) (s : State), ∃ t, exec i s = .next t) ∧
  (∀ s : State, s.halted → step s = finish haltLoop s) ∧
  ∀ s : State, ¬s.halted → step s = exec (fetchedInstr s) (fetch s).2

/-- R40, R56: whatever a step does to the port it does by a sequence of port calls, each logged in order with its answer:
the port after the step is the port before it with those calls performed. -/
def Obligations.PortIsTheOnlyPath : Prop :=
  ∀ s t : State, step s = .next t → ∃ rs : List Request, t.port = s.port.performAll rs

/-- R440: the number of reads, writes and idles of a step is the cell of the call-count grid for the fetched opcode; two
more only where the cell has the form `a/b`; and two more for each `Sync()` answered false, which only `SLEEP`, `STOP` and the
halted step ask. A halted step makes two calls for each such answer and no other. -/
def Obligations.CallCountsFollowTheGrid : Prop :=
  ∀ s t : State, step s = .next t →
    let op := s.port.answer s.pc
    let n := t.port.syncFalse - s.port.syncFalse
    s.port.syncFalse ≤ t.port.syncFalse ∧
    (s.halted → t.port.counted = s.port.counted + 2 * n) ∧
    (¬s.halted →
      (op ≠ 0xEF → op ≠ 0xFF → n = 0) ∧
      (t.port.counted = s.port.counted + cellAt callGrid 0 op + 2 * n ∨
        (cellAt slashGrid false op = true ∧ t.port.counted = s.port.counted + cellAt callGrid 0 op + 2)))

/-! ### Halting -/

/-- R336: a halted step fetches no opcode; it runs the halt loop once and leaves every register, flag and sub-state as it
is. What the loop does when the scripted `Sync()` answers are used up is the model's choice (log entry 3). -/
def Obligations.HaltedStepRunsTheLoop : Prop :=
  ∀ s : State, s.halted →
    step s = .next { s with port := s.port.performAll (haltRequests s.pc s.port.syncs) }

/-- R334: with N answers false and then true, the loop makes exactly N read/idle pairs, each read at the unchanged PC, and
N + 1 queries, and uses up exactly those answers. -/
def Obligations.HaltLoopMakesNPairs : Prop :=
  ∀ (s : State) (n : Nat) (rest : List Bool), s.port.syncs = List.replicate n false ++ true :: rest →
    (haltLoop s).2 =
      { s with port := s.port.performAll ((List.replicate n [Request.sync, .read s.pc, .idle]).flatten ++ [.sync]) } ∧
    (haltLoop s).2.port.syncs = rest

/-- R332, R333: `SLEEP` sets `wait` and `STOP` sets `stop`, each then runs the halt loop, and nothing else changes. That the loop
ends when the scripted `Sync()` answers are used up is the model's choice (log entry 3). -/
def Obligations.SleepAndStopResult : Prop :=
  ∀ s : State,
    exec .sleep s =
      .next { s with wait := true, port := s.port.performAll (haltRequests s.pc s.port.syncs) } ∧
    exec .stop s =
      .next { s with stop := true, port := s.port.performAll (haltRequests s.pc s.port.syncs) }

/-- R335: no instruction, no step and no port answer clears `wait` or `stop`; `power()` clears them and `deserialize` gives
them the values of the image. -/
def Obligations.HaltIsSticky : Prop :=
  (∀ s t : State, step s = .next t → (s.wait = true → t.wait = true) ∧ (s.stop = true → t.stop = true)) ∧
  (∀ (i : Instr) (s t : State), exec i s = .next t →
    (s.wait = true → t.wait = true) ∧ (s.stop = true → t.stop = true)) ∧
  (∀ s : State, (power s).wait = false ∧ (power s).stop = false) ∧
  ∀ (buf : List Byte) (s : State), 16 ≤ buf.length →
    (deserialize buf s).2.wait = decide (buf.getD 14 0 ≠ 0) ∧ (deserialize buf s).2.stop = decide (buf.getD 15 0 ≠ 0)

/-- R337: over any number of steps, a halted core never changes PC, A, X, Y, S, the flags or the sub-states. -/
def Obligations.HaltedRunsChangeOnlyThePort : Prop :=
  ∀ (k : Nat) (s t : State), s.halted → Sys2Proof.core.run k s = .next t → t = { s with port := t.port }

/-! ### The invariant -/

/-- Every step keeps the invariant: the RAM stays in its canonical form (log entry 2), and `wait` and `stop` are never both
set (R28). From every state that meets it, reachable or not. -/
def Obligations.EveryStepKeepsTheInvariant : Prop :=
  ∀ s t : State, s.Inv → step s = .next t → t.Inv

/-- The reset state meets the invariant, and so does `power()` of any state whose RAM is in its canonical form. `wait` and `stop`
are false after `power()` (R30); that the reset state's RAM lists nothing (log entry 4) and what the canonical form is (log
entry 2) are the model's choices. -/
def Obligations.ResetMeetsTheInvariant : Prop :=
  State.reset.Inv ∧ ∀ s : State, s.port.mem.wf = true → (power s).Inv

/-! ### Flags and the ALU -/

/-- R24: the packed byte is the weighted sum of the flags, unpacking takes bit k for the flag of weight 2^k, and the two are
inverse: all eight bits are real. -/
def Obligations.PackedFlagByte : Prop :=
  (∀ f : Flags, (packPsw f).toNat =
    f.nf.toNat * 128 + f.vf.toNat * 64 + f.pf.toNat * 32 + f.bf.toNat * 16 + f.hf.toNat * 8 + f.iflag.toNat * 4
      + f.zf.toNat * 2 + f.cf.toNat) ∧
  (∀ b : Byte, unpackPsw b =
    { cf := b.getLsbD 0, zf := b.getLsbD 1, iflag := b.getLsbD 2, hf := b.getLsbD 3,
      bf := b.getLsbD 4, pf := b.getLsbD 5, vf := b.getLsbD 6, nf := b.getLsbD 7 }) ∧
  (∀ f : Flags, unpackPsw (packPsw f) = f) ∧
  ∀ b : Byte, packPsw (unpackPsw b) = b

/-- R91: `ADC`. CF is the carry out of bit 7, HF the carry out of bit 3, VF the two's-complement overflow of x + y + CF. -/
def Obligations.AdcComputes : Prop :=
  ∀ (x y : Byte) (f : Flags),
    let r := adc x y f
    let sum := x.toNat + y.toNat + f.cf.toNat
    r.1.toNat = sum % 256 ∧
    r.2.cf = decide (255 < sum) ∧
    r.2.zf = decide (sum % 256 = 0) ∧
    r.2.hf = (x ^^^ y ^^^ r.1).getLsbD 4 ∧
    r.2.hf = decide (15 < x.toNat % 16 + y.toNat % 16 + f.cf.toNat) ∧
    r.2.vf = decide (~~~(x ^^^ y) &&& (x ^^^ r.1) &&& 0x80 ≠ 0) ∧
    r.2.vf = decide (x.toInt + y.toInt + f.cf.toNat < -128 ∨ 127 < x.toInt + y.toInt + f.cf.toNat) ∧
    r.2.nf = decide (128 ≤ sum % 256) ∧
    r.2.iflag = f.iflag ∧ r.2.bf = f.bf ∧ r.2.pf = f.pf

/-- R92: `SBC` is `ADC` with the second operand complemented; CF = 1 means no borrow, before and after. -/
def Obligations.SbcComputes : Prop :=
  ∀ (x y : Byte) (f : Flags),
    let r := sbc x y f
    let borrow := 1 - f.cf.toNat
    r = adc x (y ^^^ 0xFF) f ∧
    r.1.toNat = (x.toNat + 512 - y.toNat - borrow) % 256 ∧
    r.2.cf = decide (y.toNat + borrow ≤ x.toNat) ∧
    r.2.zf = decide (r.1 = 0) ∧
    r.2.hf = decide (y.toNat % 16 + borrow ≤ x.toNat % 16) ∧
    r.2.vf = decide (x.toInt - y.toInt - borrow < -128 ∨ 127 < x.toInt - y.toInt - borrow) ∧
    r.2.nf = decide (128 ≤ r.1.toNat)

/-- R93 to R97, R106, R107: `CMP` and `CPW` answer their left operand and write CF, ZF, NF of the difference; `AND`, `OR`, `EOR`, `LD` and
`LDW` write ZF and NF of their result; the other flags keep their values. -/
def Obligations.CompareLogicAndLoadCompute : Prop :=
  ∀ (x y : Byte) (v w : Addr) (f : Flags),
    cmp x y f =
      (x, { f with cf := decide (y.toNat ≤ x.toNat), zf := decide (x = y),
                   nf := decide (128 ≤ (x.toNat + 256 - y.toNat) % 256) }) ∧
    Machine.and x y f = (x &&& y, { f with zf := decide ((x &&& y).toNat = 0), nf := decide (128 ≤ (x &&& y).toNat) }) ∧
    Machine.or x y f = (x ||| y, { f with zf := decide ((x ||| y).toNat = 0), nf := decide (128 ≤ (x ||| y).toNat) }) ∧
    eor x y f = (x ^^^ y, { f with zf := decide ((x ^^^ y).toNat = 0), nf := decide (128 ≤ (x ^^^ y).toNat) }) ∧
    ld x y f = (y, { f with zf := decide (y.toNat = 0), nf := decide (128 ≤ y.toNat) }) ∧
    cpw v w f =
      (v, { f with cf := decide (w.toNat ≤ v.toNat), zf := decide (v = w),
                   nf := decide (32768 ≤ (v.toNat + 65536 - w.toNat) % 65536) }) ∧
    ldw v w f = (w, { f with zf := decide (w.toNat = 0), nf := decide (32768 ≤ w.toNat) })

/-- R98 to R103: the shifts and rotates by one bit through CF, and the increments that leave CF alone. The selector of an
executor names its algorithm (R90). -/
def Obligations.ShiftsAndStepsCompute : Prop :=
  ∀ (x : Byte) (f : Flags),
    let zn := fun (r : Nat) (g : Flags) => { g with zf := decide (r = 0), nf := decide (128 ≤ r) }
    ((asl x f).1.toNat = x.toNat * 2 % 256 ∧
      (asl x f).2 = zn (x.toNat * 2 % 256) { f with cf := decide (128 ≤ x.toNat) }) ∧
    ((lsr x f).1.toNat = x.toNat / 2 ∧
      (lsr x f).2 = { f with cf := decide (x.toNat % 2 = 1), zf := decide (x.toNat / 2 = 0), nf := false }) ∧
    ((rol x f).1.toNat = x.toNat * 2 % 256 + f.cf.toNat ∧
      (rol x f).2 = zn (x.toNat * 2 % 256 + f.cf.toNat) { f with cf := decide (128 ≤ x.toNat) }) ∧
    ((ror x f).1.toNat = f.cf.toNat * 128 + x.toNat / 2 ∧
      (ror x f).2 = zn (f.cf.toNat * 128 + x.toNat / 2) { f with cf := decide (x.toNat % 2 = 1) }) ∧
    ((inc x f).1.toNat = (x.toNat + 1) % 256 ∧ (inc x f).2 = zn ((x.toNat + 1) % 256) f) ∧
    ((dec x f).1.toNat = (x.toNat + 255) % 256 ∧ (dec x f).2 = zn ((x.toNat + 255) % 256) f) ∧
    alu1 .asl x f = asl x f ∧ alu1 .lsr x f = lsr x f ∧ alu1 .rol x f = rol x f ∧ alu1 .ror x f = ror x f ∧
    alu1 .inc x f = inc x f ∧ alu1 .dec x f = dec x f

/-- R104, R105: the two 16-bit algorithms composed of byte calls: the incoming carry is ignored, CF is the carry (no borrow)
of bit 15, HF of bit 11, VF the signed overflow of 16 bits, ZF and NF from all 16 bits. -/
def Obligations.WordAddAndSubtractCompute : Prop :=
  ∀ (x y : Addr) (f : Flags),
    ((adw x y f).1.toNat = (x.toNat + y.toNat) % 65536 ∧
      (adw x y f).2 =
        { f with
          cf := decide (65536 ≤ x.toNat + y.toNat)
          zf := decide ((x.toNat + y.toNat) % 65536 = 0)
          hf := decide (4095 < x.toNat % 4096 + y.toNat % 4096)
          vf := decide (x.toInt + y.toInt < -32768 ∨ 32767 < x.toInt + y.toInt)
          nf := decide (32768 ≤ (x.toNat + y.toNat) % 65536) }) ∧
    ((sbw x y f).1.toNat = (x.toNat + 65536 - y.toNat) % 65536 ∧
      (sbw x y f).2 =
        { f with
          cf := decide (y.toNat ≤ x.toNat)
          zf := decide ((x.toNat + 65536 - y.toNat) % 65536 = 0)
          hf := decide (y.toNat % 4096 ≤ x.toNat % 4096)
          vf := decide (x.toInt - y.toInt < -32768 ∨ 32767 < x.toInt - y.toInt)
          nf := decide (32768 ≤ (x.toNat + 65536 - y.toNat) % 65536) })

/-- R108: the unsigned product over both halves, ZF and NF from the high half only. -/
def Obligations.MultiplyComputes : Prop :=
  ∀ (y a : Byte) (f : Flags),
    let r := mul y a f
    r.2.1.toNat * 256 + r.1.toNat = y.toNat * a.toNat ∧
    r.2.2 = { f with zf := decide (r.2.1.toNat = 0), nf := decide (128 ≤ r.2.1.toNat) }

/-- R109: the ordinary path and the quirk path of `DIV`, the flags, the case X = 0, and that VF = 0 is exactly when the
quotient fits: there quotient and remainder are the true ones. -/
def Obligations.DivideComputes : Prop :=
  ∀ (a y x : Byte) (f : Flags),
    let ya := y.toNat * 256 + a.toNat
    let q := (div a y x f).1
    let m := (div a y x f).2.1
    (div a y x f).2.2 =
      { f with hf := decide (x.toNat % 16 ≤ y.toNat % 16), vf := decide (x.toNat ≤ y.toNat),
               zf := decide (q.toNat = 0), nf := decide (128 ≤ q.toNat) } ∧
    (y.toNat < 2 * x.toNat → q.toNat = ya / x.toNat % 256 ∧ m.toNat = ya % x.toNat) ∧
    (2 * x.toNat ≤ y.toNat →
      q.toNat = 255 - (ya - x.toNat * 512) / (256 - x.toNat) ∧
      m.toNat = x.toNat + (ya - x.toNat * 512) % (256 - x.toNat)) ∧
    (x = 0 → q.toNat = 255 - y.toNat ∧ m = a) ∧
    (y.toNat < x.toNat → q.toNat * x.toNat + m.toNat = ya ∧ m.toNat < x.toNat)

/-- R328, R329: the two corrections do what they are for: after `ADC` (`SBC`) of two packed BCD bytes, `DAA` (`DAS`) gives the packed
BCD sum (difference) with the decimal carry (no borrow) in CF. That the algorithms are decimal-correct is this statement's
own inference from the two rules. -/
def Obligations.DecimalAdjustIsDecimal : Prop :=
  ∀ (h1 l1 h2 l2 : Nat) (f : Flags), h1 < 10 → l1 < 10 → h2 < 10 → l2 < 10 →
    let bcd := fun n : Nat => BitVec.ofNat 8 (n / 10 * 16 + n % 10)
    let x := h1 * 10 + l1
    let y := h2 * 10 + l2
    let add := adc (bcd x) (bcd y) f
    let sub := sbc (bcd x) (bcd y) f
    (daa add.1 add.2).1 = bcd ((x + y + f.cf.toNat) % 100) ∧
    (daa add.1 add.2).2.cf = decide (100 ≤ x + y + f.cf.toNat) ∧
    (das sub.1 sub.2).1 = bcd ((x + 99 + f.cf.toNat - y) % 100) ∧
    (das sub.1 sub.2).2.cf = decide (y + 1 ≤ x + f.cf.toNat)

/-! ### Addresses, the stack -/

/-- R47, R48: the address of a direct-page offset is in the page that PF selects, an index is added modulo 256 before the
page is applied, and `Load` and `Store` are one port call at that address. -/
def Obligations.DirectPageAddressing : Prop :=
  ∀ (s : State) (d v : Byte) (r : Reg),
    (s.dp d).toNat = s.flags.pf.toNat * 256 + d.toNat ∧
    (s.dp (d + s.reg r)).toNat = s.flags.pf.toNat * 256 + (d.toNat + (s.reg r).toNat) % 256 ∧
    (s.dp (d + 1)).toNat = s.flags.pf.toNat * 256 + (d.toNat + 1) % 256 ∧
    load d s = (s.port.answer (s.dp d), { s with port := s.port.perform (.read (s.dp d)) }) ∧
    store d v s = ((), { s with port := s.port.perform (.write (s.dp d) v) })

/-- R49: push writes at 0x0100 + S and then decrements S modulo 256; pull increments S modulo 256 and then reads there. -/
def Obligations.StackPushAndPull : Prop :=
  ∀ (s : State) (v : Byte),
    let top := BitVec.ofNat 16 (0x0100 + s.sp.toNat)
    let below := BitVec.ofNat 16 (0x0100 + (s.sp.toNat + 1) % 256)
    push v s =
      ((), { s with sp := BitVec.ofNat 8 (s.sp.toNat + 255), port := s.port.perform (.write top v) }) ∧
    pull s =
      (s.port.answer below,
       { s with sp := BitVec.ofNat 8 (s.sp.toNat + 1), port := s.port.perform (.read below) })

/-- R47, R48, R50 to R52, with the calls of R131, R142, R153, R162, R176, R183 and R190: the address each operand form
names, the port calls that find it in order, and how far PC moves. -/
def Obligations.OperandFormsFindTheirAddress : Prop :=
  ∀ (s : State) (d : Byte) (a : Addr) (r : Reg),
    let p := s.port
    let zx := fun v : Byte => BitVec.setWidth 16 v
    effectiveAddress (.direct d) s = (s.dp d, s.after 1 [.read s.pc]) ∧
    effectiveAddress (.directIndexed d r) s = (s.dp (d + s.reg r), s.after 1 [.read s.pc, .idle]) ∧
    effectiveAddress (.absolute a) s = (a, s.after 2 [.read s.pc, .read (s.pc + 1)]) ∧
    effectiveAddress (.absoluteIndexed a r) s =
      (a + zx (s.reg r), s.after 2 [.read s.pc, .read (s.pc + 1), .idle]) ∧
    effectiveAddress .indirectX s = (s.dp s.x, s.after 0 [.read s.pc]) ∧
    effectiveAddress (.indexedIndirect d) s =
      (p.upcoming 2 (s.dp (d + s.x + 1)) ++ p.upcoming 1 (s.dp (d + s.x)),
       s.after 1 [.read s.pc, .idle, .read (s.dp (d + s.x)), .read (s.dp (d + s.x + 1))]) ∧
    effectiveAddress (.indirectIndexed d) s =
      ((p.upcoming 2 (s.dp (d + 1)) ++ p.upcoming 1 (s.dp d)) + zx s.y,
       s.after 1 [.read s.pc, .read (s.dp d), .read (s.dp (d + 1)), .idle])

/-! ### The result of every instruction: each conclusion is the next state. -/

/-- The read executors (R120 to R196): every instruction of `immediateInstr` and `readInstr` completes; the destination
register and the flags are the algorithm's on the register and the immediate, or the byte read at the operand form's
address, which is the last port call. The last two clauses say what applying an algorithm to a register does: its result goes
to that register, its flags to the flags, and nothing else changes; and which algorithm a selector names (R90). -/
def Obligations.ReadExecutorsResult : Prop :=
  (∀ (f : Alu2) (r : Reg) (mk : Byte → Instr) (v : Byte) (s : State), immediateInstr f r = some mk →
    exec (mk v) s = .next ((s.after 1 [.read s.pc]).applyAlu2 f r v)) ∧
  (∀ (f : Alu2) (r : Reg) (m : Mode) (i : Instr) (s : State), readInstr f r m = some i →
    let a := (effectiveAddress m s).1
    let t := (effectiveAddress m s).2
    exec i s = .next (({ t with port := t.port.perform (.read a) }).applyAlu2 f r (t.port.answer a))) ∧
  (∀ (f : Alu2) (s : State) (v : Byte),
    s.applyAlu2 f .a v = { s with a := (alu2 f s.a v s.flags).1, flags := (alu2 f s.a v s.flags).2 } ∧
    s.applyAlu2 f .x v = { s with x := (alu2 f s.x v s.flags).1, flags := (alu2 f s.x v s.flags).2 } ∧
    s.applyAlu2 f .y v = { s with y := (alu2 f s.y v s.flags).1, flags := (alu2 f s.y v s.flags).2 }) ∧
  ∀ (x y : Byte) (f : Flags),
    alu2 .adc x y f = adc x y f ∧ alu2 .sbc x y f = sbc x y f ∧ alu2 .cmp x y f = cmp x y f ∧
    alu2 .and x y f = Machine.and x y f ∧ alu2 .or x y f = Machine.or x y f ∧ alu2 .eor x y f = eor x y f ∧
    alu2 .ld x y f = ld x y f

/-- The store executors (R202 to R215): a dummy read of the destination and then the write of the register, at the operand
form's address; no register and no flag changes. -/
def Obligations.StoreExecutorsResult : Prop :=
  ∀ (r : Reg) (m : Mode) (i : Instr) (s : State), storeInstr r m = some i →
    let a := (effectiveAddress m s).1
    let t := (effectiveAddress m s).2
    exec i s = .next { t with port := t.port.performAll [.read a, .write a (s.reg r)] }

/-- The modify executors (R219 to R236) and `ImpliedModify` (R309 to R318): read, apply, write back at the same address, or the
same on a register after one dummy read. -/
def Obligations.ModifyExecutorsResult : Prop :=
  (∀ (f : Alu1) (m : Mode) (i : Instr) (s : State), modifyInstr f m = some i →
    let a := (effectiveAddress m s).1
    let t := (effectiveAddress m s).2
    let q := alu1 f (t.port.answer a) s.flags
    exec i s = .next { t with flags := q.2, port := t.port.performAll [.read a, .write a q.1] }) ∧
  ∀ (f : Alu1) (r : Reg) (i : Instr) (s : State), impliedInstr f r = some i →
    let q := alu1 f (s.reg r) s.flags
    exec i s = .next (({ s with flags := q.2, port := s.port.perform (.read s.pc) }).setReg r q.1)

/-- `dd,ds` (R239 to R245): the source is read before the destination offset is fetched; `CMP` makes an idle call in place of
the write; `MOV` does not read its destination. -/
def Obligations.DirectDirectResult : Prop :=
  ∀ (dd ds : Byte) (s : State),
    let rhs := s.port.upcoming 1 (s.dp ds)
    let lhs := s.port.upcoming 3 (s.dp dd)
    let calls := [Request.read s.pc, .read (s.dp ds), .read (s.pc + 1)]
    (∀ (f : Alu2) (mk : Byte → Byte → Instr), directDirectInstr f = some mk →
      exec (mk dd ds) s =
        .next ({ s.after 2 (calls ++ [.read (s.dp dd), .write (s.dp dd) (alu2 f lhs rhs s.flags).1]) with
                 flags := (alu2 f lhs rhs s.flags).2 })) ∧
    exec (.cmpDdDs dd ds) s =
      .next ({ s.after 2 (calls ++ [.read (s.dp dd), .idle]) with flags := (cmp lhs rhs s.flags).2 }) ∧
    exec (.movDdDs dd ds) s = .next (s.after 2 (calls ++ [.write (s.dp dd) rhs]))

/-- `d,#i` (R246 to R251, R218): immediate first, then the offset; `CMP` makes an idle call in place of the write; `MOV` reads
its destination before it writes. -/
def Obligations.DirectImmediateResult : Prop :=
  ∀ (d i : Byte) (s : State),
    let v := s.port.upcoming 2 (s.dp d)
    let calls := [Request.read s.pc, .read (s.pc + 1), .read (s.dp d)]
    (∀ (f : Alu2) (mk : Byte → Byte → Instr), directImmediateInstr f = some mk →
      exec (mk d i) s =
        .next ({ s.after 2 (calls ++ [.write (s.dp d) (alu2 f v i s.flags).1]) with
                 flags := (alu2 f v i s.flags).2 })) ∧
    exec (.cmpDImm d i) s = .next ({ s.after 2 (calls ++ [.idle]) with flags := (cmp v i s.flags).2 }) ∧
    exec (.movDImm d i) s = .next (s.after 2 (calls ++ [.write (s.dp d) i]))

/-- `(X),(Y)` (R252 to R257): the byte at DP(Y) is read first, then the one at DP(X), which is the left operand and the
destination. -/
def Obligations.IndirectPairResult : Prop :=
  ∀ s : State,
    let rhs := s.port.upcoming 1 (s.dp s.y)
    let lhs := s.port.upcoming 2 (s.dp s.x)
    let calls := [Request.read s.pc, .read (s.dp s.y), .read (s.dp s.x)]
    (∀ (f : Alu2) (i : Instr), indirectPairInstr f = some i →
      exec i s =
        .next ({ s.after 0 (calls ++ [.write (s.dp s.x) (alu2 f lhs rhs s.flags).1]) with
                 flags := (alu2 f lhs rhs s.flags).2 })) ∧
    exec .cmpIndXIndY s = .next ({ s.after 0 (calls ++ [.idle]) with flags := (cmp lhs rhs s.flags).2 })

/-- R197, R216, R217: the two `(X)+` forms use X before the increment, the store makes an idle call and no dummy read; the word
store reads only its low destination byte before the two writes. -/
def Obligations.AutoIncrementAndWordStoreResult : Prop :=
  ∀ (d : Byte) (s : State),
    let v := s.port.upcoming 1 (s.dp s.x)
    exec .movAIndXInc s =
      .next ({ s.after 0 [.read s.pc, .read (s.dp s.x), .idle] with
               a := v, x := s.x + 1,
               flags := { s.flags with zf := decide (v.toNat = 0), nf := decide (128 ≤ v.toNat) } }) ∧
    exec .movIndXIncA s =
      .next ({ s.after 0 [.read s.pc, .idle, .write (s.dp s.x) s.a] with x := s.x + 1 }) ∧
    exec (.movwDYa d) s =
      .next (s.after 1 [.read s.pc, .read (s.dp d), .write (s.dp d) s.a, .write (s.dp (d + 1)) s.y])

/-- R198 to R201: YA is the left operand, the word at DP(d) and DP(d+1) the right one; `CMPW` makes no idle call and leaves YA. -/
def Obligations.WordReadResult : Prop :=
  ∀ (d : Byte) (s : State),
    let w := s.port.upcoming 2 (s.dp (d + 1)) ++ s.port.upcoming 1 (s.dp d)
    let ya := s.y ++ s.a
    let result := fun q : Addr × Flags =>
      { s.after 1 [.read s.pc, .read (s.dp d), .idle, .read (s.dp (d + 1))] with
        a := q.1.extractLsb' 0 8, y := q.1.extractLsb' 8 8, flags := q.2 }
    exec (.addwYaD d) s = .next (result (adw ya w s.flags)) ∧
    exec (.subwYaD d) s = .next (result (sbw ya w s.flags)) ∧
    exec (.movwYaD d) s = .next (result (ldw ya w s.flags)) ∧
    exec (.cmpwYaD d) s =
      .next ({ s.after 1 [.read s.pc, .read (s.dp d), .read (s.dp (d + 1))] with flags := (cpw ya w s.flags).2 })

/-- R237, R238: the word in the direct page plus or minus one modulo 65,536, the low byte written before the high byte is
read, ZF and NF from all 16 bits. -/
def Obligations.WordModifyResult : Prop :=
  ∀ (d : Byte) (s : State) (i : Instr) (delta : Nat),
    (i = .incwD d ∧ delta = 1) ∨ (i = .decwD d ∧ delta = 65535) →
    let lo := s.port.upcoming 1 (s.dp d)
    let wlo := BitVec.ofNat 8 (lo.toNat + delta)
    let calls := [Request.read s.pc, .read (s.dp d), .write (s.dp d) wlo]
    let hi := (s.port.performAll calls).answer (s.dp (d + 1))
    let w := (hi.toNat * 256 + lo.toNat + delta) % 65536
    exec i s =
      .next ({ s.after 1 (calls ++ [.read (s.dp (d + 1)), .write (s.dp (d + 1)) (BitVec.ofNat 8 (w / 256))]) with
               flags := { s.flags with zf := decide (w = 0), nf := decide (32768 ≤ w) } }) ∧
    wlo.toNat = w % 256

/-- R258 to R265: the `m.b` forms. CF is combined with bit b of the byte at a, or that one bit is written back. -/
def Obligations.CarryBitResult : Prop :=
  ∀ (a : Addr) (b : Nat) (s : State), a.toNat < 0x2000 → b < 8 →
    let v := s.port.upcoming 2 a
    let c := s.flags.cf
    let reads := [Request.read s.pc, .read (s.pc + 1), .read a]
    let carry := fun (rs : List Request) (q : Bool) => { s.after 2 rs with flags := { s.flags with cf := q } }
    let one := (1 : Byte) <<< b
    exec (.or1CMb a b) s = .next (carry (reads ++ [.idle]) (c || v.getLsbD b)) ∧
    exec (.or1CNotMb a b) s = .next (carry (reads ++ [.idle]) (c || !v.getLsbD b)) ∧
    exec (.and1CMb a b) s = .next (carry reads (c && v.getLsbD b)) ∧
    exec (.and1CNotMb a b) s = .next (carry reads (c && !v.getLsbD b)) ∧
    exec (.eor1CMb a b) s = .next (carry (reads ++ [.idle]) (c != v.getLsbD b)) ∧
    exec (.mov1CMb a b) s = .next (carry reads (v.getLsbD b)) ∧
    exec (.mov1MbC a b) s =
      .next (s.after 2 (reads ++ [.idle, .write a (if c then v ||| one else v &&& ~~~one)])) ∧
    exec (.not1Mb a b) s = .next (s.after 2 (reads ++ [.write a (v ^^^ one)]))

/-- R266 to R269: `SET1`, `CLR1` write one bit of a direct-page byte and write the whole byte back; `TSET1`, `TCLR1` set ZF and NF of
A - v, read the address a second time, and write what the first read gave with A's bits set or cleared. -/
def Obligations.BitSetAndTestResult : Prop :=
  ∀ (d : Byte) (b : Nat) (a : Addr) (s : State), b < 8 →
    let v := s.port.upcoming 1 (s.dp d)
    let u := s.port.upcoming 2 a
    let one := (1 : Byte) <<< b
    let direct := fun w : Byte => s.after 1 [.read s.pc, .read (s.dp d), .write (s.dp d) w]
    let test := fun w : Byte =>
      { s.after 2 [.read s.pc, .read (s.pc + 1), .read a, .read a, .write a w] with
        flags := { s.flags with zf := decide (s.a = u), nf := decide (128 ≤ (s.a.toNat + 256 - u.toNat) % 256) } }
    exec (.set1Dbit b d) s = .next (direct (v ||| one)) ∧
    exec (.clr1Dbit b d) s = .next (direct (v &&& ~~~one)) ∧
    exec (.tset1Abs a) s = .next (test (u ||| s.a)) ∧
    exec (.tclr1Abs a) s = .next (test (u &&& ~~~s.a)) ∧
    ∀ k < 8, (v ||| one).getLsbD k = (if k = b then true else v.getLsbD k) ∧
      (v &&& ~~~one).getLsbD k = (if k = b then false else v.getLsbD k)

/-- R273 to R281 with R76: the displacement is fetched whether or not the branch is taken; a taken branch makes two idle
calls and goes to the signed displacement from the next instruction, modulo 65,536. -/
def Obligations.ConditionalBranchResult : Prop :=
  (∀ (r : Byte) (s : State),
    let go := fun taken : Bool => s.branched [.read s.pc] (s.pc + 1) taken r
    exec (.bplRel r) s = .next (go (!s.flags.nf)) ∧ exec (.bmiRel r) s = .next (go s.flags.nf) ∧
    exec (.bvcRel r) s = .next (go (!s.flags.vf)) ∧ exec (.bvsRel r) s = .next (go s.flags.vf) ∧
    exec (.bccRel r) s = .next (go (!s.flags.cf)) ∧ exec (.bcsRel r) s = .next (go s.flags.cf) ∧
    exec (.bneRel r) s = .next (go (!s.flags.zf)) ∧ exec (.beqRel r) s = .next (go s.flags.zf) ∧
    exec (.braRel r) s = .next (go true)) ∧
  ∀ (r : Byte) (s : State),
    ((s.branchTarget r).toNat : Int) = ((s.pc.toNat : Int) + r.toInt) % 65536 ∧
    r.toInt = if r.toNat ≤ 0x7F then (r.toNat : Int) else (r.toNat : Int) - 256

/-- R270, R271, R282 to R285: branch on a bit, compare and branch, decrement and branch; no flag changes. -/
def Obligations.TestAndBranchResult : Prop :=
  ∀ (d r : Byte) (b : Nat) (s : State), b < 8 →
    let v := s.port.upcoming 1 (s.dp d)
    let vx := s.port.upcoming 1 (s.dp (d + s.x))
    let byBit := fun taken : Bool =>
      s.branched [.read s.pc, .read (s.dp d), .idle, .read (s.pc + 1)] (s.pc + 2) taken r
    exec (.bbsDbitRel b d r) s = .next (byBit (v.getLsbD b)) ∧
    exec (.bbcDbitRel b d r) s = .next (byBit (!v.getLsbD b)) ∧
    exec (.cbneDRel d r) s = .next (byBit (decide (s.a ≠ v))) ∧
    exec (.cbneDXRel d r) s =
      .next (s.branched [.read s.pc, .idle, .read (s.dp (d + s.x)), .idle, .read (s.pc + 1)] (s.pc + 2)
        (decide (s.a ≠ vx)) r) ∧
    exec (.dbnzDRel d r) s =
      .next (s.branched [.read s.pc, .read (s.dp d), .write (s.dp d) (v - 1), .read (s.pc + 1)] (s.pc + 2)
        (decide (v ≠ 1)) r) ∧
    exec (.dbnzYRel r) s =
      .next (({ s with y := s.y - 1 }).branched [.read s.pc, .idle, .read s.pc] (s.pc + 1) (decide (s.y ≠ 1)) r)

/-- R286 to R290: the jumps and the calls. The return address pushed is that of the next instruction, high byte first;
`TCALL v` takes its target from the word at 0xFFDE - 2*v, read after the pushes. -/
def Obligations.JumpAndCallResult : Prop :=
  ∀ (a : Addr) (u : Byte) (v : Nat) (s : State), v < 16 →
    let t := a + BitVec.setWidth 16 s.x
    let jcalls := [Request.read s.pc, .read (s.pc + 1), .idle, .read t, .read (t + 1)]
    let pushes := fun ret : Addr =>
      [Request.write (s.stackAddrAt 0) (ret.extractLsb' 8 8), .write (s.stackAddrAt 1) (ret.extractLsb' 0 8)]
    let slot := BitVec.ofNat 16 (0xFFDE - 2 * v)
    let tcalls := [Request.read s.pc, .idle] ++ pushes s.pc ++ [.idle]
    let lo := (s.port.performAll tcalls).upcoming 0 slot
    let hi := (s.port.performAll tcalls).upcoming 1 (slot + 1)
    exec (.jmpAbs a) s = .next { s with pc := a, port := s.port.performAll [.read s.pc, .read (s.pc + 1)] } ∧
    exec (.jmpIndAbsX a) s =
      .next { s with pc := s.port.upcoming 3 (t + 1) ++ s.port.upcoming 2 t, port := s.port.performAll jcalls } ∧
    exec (.callAbs a) s =
      .next { s with
        pc := a, sp := s.sp - 2
        port := s.port.performAll ([.read s.pc, .read (s.pc + 1), .idle] ++ pushes (s.pc + 2) ++ [.idle, .idle]) } ∧
    exec (.pcallU u) s =
      .next { s with
        pc := 0xFF00 + BitVec.setWidth 16 u, sp := s.sp - 2
        port := s.port.performAll ([.read s.pc, .idle] ++ pushes (s.pc + 1) ++ [.idle]) } ∧
    exec (.tcallV v) s =
      .next { s with
        pc := hi ++ lo, sp := s.sp - 2
        port := s.port.performAll (tcalls ++ [.read slot, .read (slot + 1)]) }

/-- R291, R402: `BRK` pushes PC of the next instruction (high, low) and the packed flags as they were, reads its target from
0xFFDE and 0xFFDF, clears IF and sets BF; every other register and flag stays. -/
def Obligations.BreakEntryResult : Prop :=
  ∀ s : State,
    let calls :=
      [Request.read s.pc, .write (s.stackAddrAt 0) (s.pc.extractLsb' 8 8),
       .write (s.stackAddrAt 1) (s.pc.extractLsb' 0 8), .write (s.stackAddrAt 2) (packPsw s.flags), .idle]
    let lo := (s.port.performAll calls).upcoming 0 0xFFDE
    let hi := (s.port.performAll calls).upcoming 1 0xFFDF
    exec .brk s =
      .next { s with
        pc := hi ++ lo, sp := s.sp - 3, flags := { s.flags with iflag := false, bf := true }
        port := s.port.performAll (calls ++ [.read 0xFFDE, .read 0xFFDF]) }

/-- R292, R293: `RET` pulls PC, low byte first; `RETI` pulls the packed flags and then PC. The stack page does not depend on
the PF that was pulled. -/
def Obligations.ReturnResult : Prop :=
  ∀ s : State,
    let slot := fun k : Byte => BitVec.ofNat 16 (0x0100 + (s.sp + k).toNat)
    exec .ret s =
      .next { s with
        pc := s.port.upcoming 2 (slot 2) ++ s.port.upcoming 1 (slot 1), sp := s.sp + 2
        port := s.port.performAll [.read s.pc, .idle, .read (slot 1), .read (slot 2)] } ∧
    exec .reti s =
      .next { s with
        pc := s.port.upcoming 3 (slot 3) ++ s.port.upcoming 2 (slot 2), sp := s.sp + 3
        flags := unpackPsw (s.port.upcoming 1 (slot 1))
        port := s.port.performAll [.read s.pc, .idle, .read (slot 1), .read (slot 2), .read (slot 3)] }

/-- R406: on the reference port (log entries 2, 11), `RETI` after `BRK` (from any handler address) restores PC of the instruction after the `BRK`, S
and all eight flags, and leaves A, X and Y. -/
def Obligations.ReturnUndoesBreak : Prop :=
  ∀ (s t u : State) (handler : Addr), s.port.mem.wf = true → s.port.answers = [] →
    exec .brk s = .next t → exec .reti { t with pc := handler } = .next u →
      u.pc = s.pc ∧ u.sp = s.sp ∧ u.flags = s.flags ∧ u.a = s.a ∧ u.x = s.x ∧ u.y = s.y

/-- R406: on the reference port (log entries 2, 11), `RET` after `CALL`, `PCALL` or `TCALL` comes back to the instruction after the call with S restored. -/
def Obligations.ReturnUndoesCall : Prop :=
  ∀ (s t u : State) (i : Instr) (sub : Addr), s.port.mem.wf = true → s.port.answers = [] →
    ((∃ a, i = .callAbs a) ∨ (∃ d, i = .pcallU d) ∨ ∃ v, i = .tcallV v) →
    exec i s = .next t → exec .ret { t with pc := sub } = .next u →
      u.pc = s.pc + BitVec.ofNat 16 (i.length - 1) ∧ u.sp = s.sp ∧ u.flags = s.flags

/-- R294 to R301: a push makes its idle call after the write, a pull before the read; only `POP PSW` writes flags, all eight. -/
def Obligations.PushAndPopResult : Prop :=
  ∀ s : State,
    let pushed := fun v : Byte =>
      { s.after 0 [.read s.pc, .write (s.stackAddrAt 0) v, .idle] with sp := s.sp - 1 }
    let top := BitVec.ofNat 16 (0x0100 + (s.sp + 1).toNat)
    let popped := { s.after 0 [.read s.pc, .idle, .read top] with sp := s.sp + 1 }
    let v := s.port.upcoming 1 top
    exec .pushPsw s = .next (pushed (packPsw s.flags)) ∧ exec .pushA s = .next (pushed s.a) ∧
    exec .pushX s = .next (pushed s.x) ∧ exec .pushY s = .next (pushed s.y) ∧
    exec .popA s = .next { popped with a := v } ∧ exec .popX s = .next { popped with x := v } ∧
    exec .popY s = .next { popped with y := v } ∧ exec .popPsw s = .next { popped with flags := unpackPsw v }

/-- R302 to R308: `NOP` makes its dummy read only; a transfer copies the register and sets ZF and NF, but for `MOV SP,X`, which
writes no flag. -/
def Obligations.TransferResult : Prop :=
  ∀ s : State,
    let t := s.after 0 [.read s.pc]
    let zn := fun v : Byte => { s.flags with zf := decide (v.toNat = 0), nf := decide (128 ≤ v.toNat) }
    exec .nop s = .next t ∧
    exec .movXA s = .next { t with x := s.a, flags := zn s.a } ∧
    exec .movAX s = .next { t with a := s.x, flags := zn s.x } ∧
    exec .movXSp s = .next { t with x := s.sp, flags := zn s.sp } ∧
    exec .movSpX s = .next { t with sp := s.x } ∧
    exec .movAY s = .next { t with a := s.y, flags := zn s.y } ∧
    exec .movYA s = .next { t with y := s.a, flags := zn s.a }

/-- R319 to R326: each flag instruction writes the flags it names and no other; `EI`, `DI` and `NOTC` make one idle call. -/
def Obligations.FlagInstructionResult : Prop :=
  ∀ s : State,
    let go := fun (rs : List Request) (f : Flags) => { s.after 0 (.read s.pc :: rs) with flags := f }
    exec .clrp s = .next (go [] { s.flags with pf := false }) ∧
    exec .setp s = .next (go [] { s.flags with pf := true }) ∧
    exec .clrc s = .next (go [] { s.flags with cf := false }) ∧
    exec .setc s = .next (go [] { s.flags with cf := true }) ∧
    exec .ei s = .next (go [.idle] { s.flags with iflag := true }) ∧
    exec .di s = .next (go [.idle] { s.flags with iflag := false }) ∧
    exec .clrv s = .next (go [] { s.flags with hf := false, vf := false }) ∧
    exec .notc s = .next (go [.idle] { s.flags with cf := !s.flags.cf })

/-- R327 to R331: the nibble exchange, the decimal adjustments, multiply and divide, with their idle calls; `XCN` is its own
inverse on A. The decimal adjustments in numbers, for every A and every flag: `DAA` adds 0x60 and sets CF when CF = 1 or A > 0x99,
then adds 0x06 when HF = 1 or the low digit of the corrected value is above 9; `DAS` subtracts 0x60 and clears CF when CF = 0 or
A > 0x99, then subtracts 0x06 when HF = 0 or that digit is above 9; else CF keeps its value; ZF and NF are those of the result;
HF and every other flag keep their values. -/
def Obligations.NibbleDecimalMulDivResult : Prop :=
  ∀ s : State,
    let idle := fun n : Nat => Request.read s.pc :: List.replicate n Request.idle
    let x := BitVec.ofNat 8 (s.a.toNat % 16 * 16 + s.a.toNat / 16)
    let m := mul s.y s.a s.flags
    let q := div s.a s.y s.x s.flags
    let addHigh := s.flags.cf || decide (0x99 < s.a.toNat)
    let add1 := if addHigh then (s.a.toNat + 0x60) % 256 else s.a.toNat
    let add2 := if s.flags.hf || decide (9 < add1 % 16) then (add1 + 0x06) % 256 else add1
    let subHigh := !s.flags.cf || decide (0x99 < s.a.toNat)
    let sub1 := if subHigh then (s.a.toNat + 256 - 0x60) % 256 else s.a.toNat
    let sub2 := if !s.flags.hf || decide (9 < sub1 % 16) then (sub1 + 256 - 0x06) % 256 else sub1
    exec .xcnA s =
      .next ({ s.after 0 (idle 3) with
               a := x, flags := { s.flags with zf := decide (x.toNat = 0), nf := decide (128 ≤ x.toNat) } }) ∧
    (xcn (xcn s.a s.flags).1 s.flags).1 = s.a ∧
    exec .daaA s = .next ({ s.after 0 (idle 1) with a := (daa s.a s.flags).1, flags := (daa s.a s.flags).2 }) ∧
    daa s.a s.flags =
      (BitVec.ofNat 8 add2,
       { s.flags with cf := if addHigh then true else s.flags.cf, zf := decide (add2 = 0), nf := decide (128 ≤ add2) }) ∧
    exec .dasA s = .next ({ s.after 0 (idle 1) with a := (das s.a s.flags).1, flags := (das s.a s.flags).2 }) ∧
    das s.a s.flags =
      (BitVec.ofNat 8 sub2,
       { s.flags with cf := if subHigh then false else s.flags.cf, zf := decide (sub2 = 0), nf := decide (128 ≤ sub2) }) ∧
    exec .mulYa s = .next ({ s.after 0 (idle 7) with a := m.1, y := m.2.1, flags := m.2.2 }) ∧
    exec .divYaX s = .next ({ s.after 0 (idle 10) with a := q.1, y := q.2.1, flags := q.2.2 })

/-! ### What every instruction leaves alone -/

/-- R25: for every instruction, a flag that its rule's "Flags written" line does not list keeps its value. -/
def Obligations.FlagsNotListedKeepTheirValue : Prop :=
  ∀ (i : Instr) (s t : State) (f : FlagName), exec i s = .next t → f ∉ flagsWritten i → t.flags.get f = s.flags.get f

/-- For every instruction, a register that is neither its destination nor moved by its operand form or the stack keeps its
value, and the halted sub-states change only in `SLEEP` (`wait`) and `STOP` (`stop`). -/
def Obligations.RegistersNotWrittenKeepTheirValue : Prop :=
  ∀ (i : Instr) (s t : State), exec i s = .next t →
    (∀ r : RegName, r ∉ regsWritten i → t.get r = s.get r) ∧
    (i ≠ .sleep → t.wait = s.wait) ∧ (i ≠ .stop → t.stop = s.stop)

/-- The RAM of the reference port (R62). For every instruction, every byte of it outside the addresses its rule stores to reads
as before; an instruction that stores nothing changes no byte. And a write is seen: with the RAM in its canonical form and no
scripted answer, a read of the address written answers the byte written, and a read of any other address answers what it
answered before. That a write arrives in the RAM and that no one else changes it is the model's choice (log entry 11), as is
the form of the RAM (log entry 2). -/
def Obligations.MemoryNotStoredToKeepsItsValue : Prop :=
  (∀ (i : Instr) (s t : State) (a : Addr), exec i s = .next t → a ∉ storesTo i s →
    t.port.mem.readByte a.toNat = s.port.mem.readByte a.toNat) ∧
  ∀ (s : State) (a b : Addr) (v : Byte), s.port.mem.wf = true → s.port.answers = [] →
    let t := (memWrite a v s).2
    t.port.mem.wf = true ∧
    (memRead b s).1 = s.port.mem.readByte b.toNat ∧
    (memRead b t).1 = (if b = a then v else (memRead b s).1)

/-- R46: an instruction that transfers no control leaves PC at the address of the next instruction. -/
def Obligations.PcMovesPastTheInstruction : Prop :=
  ∀ (i : Instr) (s t : State), transfersControl i = false → exec i s = .next t →
    t.pc = s.pc + BitVec.ofNat 16 (i.length - 1)

/-- R404: IF is storage only; it is read only to build the packed flag byte. For every instruction but the two that push that
byte, running it with another value of IF gives the same next state but for IF itself: no register, no other flag, no port
call and no byte of memory differs. For `PUSH PSW` and `BRK` the registers, PC and the other flags are the same too, and the port
calls are the same but for the pushed byte, which differs in bit 2 only: there it is the value of IF. -/
def Obligations.InterruptFlagGatesNothing : Prop :=
  (∀ (i : Instr) (s t : State) (b : Bool), i ≠ .pushPsw → i ≠ .brk → exec i s = .next t →
    ∃ c : Bool, exec i (s.withIf b) = .next (t.withIf c)) ∧
  ∀ (s : State) (b : Bool),
    let w := packPsw s.flags
    let v := packPsw (s.withIf b).flags
    let pushCalls := fun x : Byte => [Request.read s.pc, .write (s.stackAddrAt 0) x, .idle]
    let breakCalls := fun x : Byte =>
      [Request.read s.pc, .write (s.stackAddrAt 0) (s.pc.extractLsb' 8 8), .write (s.stackAddrAt 1) (s.pc.extractLsb' 0 8),
       .write (s.stackAddrAt 2) x, .idle, .read 0xFFDE, .read 0xFFDF]
    v.getLsbD 2 = b ∧ w.getLsbD 2 = s.flags.iflag ∧ (∀ k, k ≠ 2 → v.getLsbD k = w.getLsbD k) ∧
    (∃ t, exec .pushPsw s = .next t ∧ t.port = s.port.performAll (pushCalls w) ∧
      exec .pushPsw (s.withIf b) = .next ({ t.withIf b with port := s.port.performAll (pushCalls v) })) ∧
    ∃ t, exec .brk s = .next t ∧ t.port = s.port.performAll (breakCalls w) ∧
      exec .brk (s.withIf b) = .next { t with port := s.port.performAll (breakCalls v) }
end

