-- ==== Sys2Proof/Laws/Bits.lean ====
section
/-! SUPPORT. Laws/Bits.lean: byte order, the flag pair ZF and NF, single bits, and the arithmetic of addresses, in the form
in which other proofs use them. -/

namespace Sys2Proof

/-! ### Byte order (20_memory.md rule R50) -/

theorem wordOf_toNat (lo hi : Byte) : (wordOf lo hi).toNat = hi.toNat * 256 + lo.toNat := by
  unfold wordOf
  rw [BitVec.toNat_append, ← Nat.shiftLeft_add_eq_or_of_lt (by omega), Nat.shiftLeft_eq]

theorem loByte_toNat (w : Addr) : (loByte w).toNat = w.toNat % 256 := by simp [loByte]

theorem hiByte_toNat (w : Addr) : (hiByte w).toNat = w.toNat / 256 := by
  simp [hiByte, Nat.shiftRight_eq_div_pow]; omega

@[simp] theorem wordOf_loByte_hiByte (w : Addr) : wordOf (loByte w) (hiByte w) = w := by
  apply BitVec.eq_of_toNat_eq
  rw [wordOf_toNat, loByte_toNat, hiByte_toNat]; omega

@[simp] theorem loByte_wordOf (lo hi : Byte) : loByte (wordOf lo hi) = lo := by
  apply BitVec.eq_of_toNat_eq
  rw [loByte_toNat, wordOf_toNat]; omega

@[simp] theorem hiByte_wordOf (lo hi : Byte) : hiByte (wordOf lo hi) = hi := by
  apply BitVec.eq_of_toNat_eq
  rw [hiByte_toNat, wordOf_toNat]; omega

/-! ### The `m.b` operand (30_encoding.md rule R77) -/

theorem mWord_toNat (a : Addr) (b : Nat) : (mWord a b).toNat = b % 8 * 8192 + a.toNat % 8192 := by
  unfold mWord
  rw [BitVec.toNat_append, ← Nat.shiftLeft_add_eq_or_of_lt (by omega), Nat.shiftLeft_eq]
  simp

theorem mAddr_toNat (m : Addr) : (mAddr m).toNat = m.toNat % 8192 := by
  simp [mAddr]; omega

theorem mBit_eq (m : Addr) : mBit m = m.toNat / 8192 := by
  simp [mBit, Nat.shiftRight_eq_div_pow]; omega

/-- The fields of an `m.b` operand come back from its word. -/
theorem mAddr_mWord (a : Addr) (b : Nat) (h : a.toNat < 0x2000) : mAddr (mWord a b) = a := by
  apply BitVec.eq_of_toNat_eq
  rw [mAddr_toNat, mWord_toNat]; omega

theorem mBit_mWord (a : Addr) (b : Nat) (h : b < 8) : mBit (mWord a b) = b := by
  rw [mBit_eq, mWord_toNat]; omega

/-- The word comes back from its fields. -/
theorem mWord_fields (m : Addr) : mWord (mAddr m) (mBit m) = m := by
  apply BitVec.eq_of_toNat_eq
  rw [mWord_toNat, mAddr_toNat, mBit_eq]; omega

namespace Machine

/-! ### Sums that the operations take one at a time -/

theorem add_one_one (a : Addr) : a + 1 + 1 = a + 2 := by rw [BitVec.add_assoc]; rfl
theorem sub_one_one (b : Byte) : b - 1 - 1 = b - 2 := by bv_omega
theorem sub_one_one_one (b : Byte) : b - 1 - 1 - 1 = b - 3 := by bv_omega
theorem byte_add_one_one (b : Byte) : b + 1 + 1 = b + 2 := by rw [BitVec.add_assoc]; rfl
theorem byte_add_one_one_one (b : Byte) : b + 1 + 1 + 1 = b + 3 := by rw [BitVec.add_assoc, BitVec.add_assoc]; rfl

theorem stackPage_toNat (b : Byte) : (wordOf b Config.stackPage).toNat = 0x0100 + b.toNat := by
  rw [wordOf_toNat]; show 1 * 256 + b.toNat = _; omega

/-! ### ZF and NF -/

theorem decide_eq_zero (v : Byte) : decide (v = 0) = decide (v.toNat = 0) := by congr 1; simp [← BitVec.toNat_inj]

theorem bit7 (v : Byte) : v.getLsbD 7 = decide (128 ≤ v.toNat) := by
  show v.msb = _
  rw [BitVec.msb_eq_decide]

theorem bit15 (v : Addr) : v.getLsbD 15 = decide (32768 ≤ v.toNat) := by
  show v.msb = _
  rw [BitVec.msb_eq_decide]

theorem setZN_eq (v : Byte) (f : Flags) :
    setZN v f = { f with zf := decide (v.toNat = 0), nf := decide (128 ≤ v.toNat) } := by
  rw [← bit7, ← decide_eq_zero]; rfl

theorem decide_sub_eq_zero (x y : Byte) : decide (x - y = 0) = decide (x = y) := by
  congr 1; simp [BitVec.sub_eq_iff_eq_add]

/-! ### Single bits -/

theorem bit_of_one_shifted (k b : Nat) (hk : k < 8) (hb : b < 8) : ((1 : Byte) <<< b).getLsbD k = decide (k = b) := by
  have : ∀ k < 8, ∀ b < 8, ((1 : Byte) <<< b).getLsbD k = decide (k = b) := by decide
  exact this k hk b hb

/-- `v[b] <- c` replaces bit `b` and leaves the others (R6). -/
theorem getLsbD_setBit (v : Byte) (b k : Nat) (c : Bool) (hb : b < 8) (hk : k < 8) :
    (setBit v b c).getLsbD k = if k = b then c else v.getLsbD k := by
  have h := bit_of_one_shifted k b hk hb
  cases c <;>
    simp only [setBit, if_true, Bool.false_eq_true, if_false, BitVec.getLsbD_or, BitVec.getLsbD_and, BitVec.getLsbD_not, h] <;>
    by_cases hkb : k = b <;> simp [hkb, hk, hb]

end Machine
end Sys2Proof
end

