-- ==== Sys2Proof/Laws/Memory.lean ====
section
/-! SUPPORT. Laws/Memory.lean: the laws of the reference port's RAM (20_memory.md rules R45 and R62): a read after a write
gives the byte written, a write leaves every other address alone, and every write keeps the canonical form. -/

namespace Sys2Proof.Machine

@[simp] theorem readByte_nil (n : Nat) : Memory.readByte [] n = Config.unlistedByte := rfl

theorem readByte_cons (k : Nat) (w : Byte) (m : Memory) (n : Nat) :
    Memory.readByte ((k, w) :: m) n = if k = n then w else Memory.readByte m n := rfl

/-- A write leaves every other address as it was, in any memory. -/
theorem readByte_writeByte_other (m : Memory) (n k : Nat) (v : Byte) (h : k ≠ n) :
    (m.writeByte n v).readByte k = m.readByte k := by
  induction m with
  | nil => unfold Memory.writeByte; split <;> simp [Memory.readByte, Ne.symm h]
  | cons c rest ih =>
    obtain ⟨j, w⟩ := c
    unfold Memory.writeByte
    split
    · split
      · rfl
      · simp [readByte_cons, Ne.symm h]
    · split
      · subst_vars
        split <;> simp [readByte_cons, Ne.symm h]
      · simp [readByte_cons, ih]

/-- Nothing is listed below the start of a canonical memory. -/
theorem readByte_below (m : Memory) (lo n : Nat) (hw : Memory.wfFrom lo m = true) (h : n < lo) :
    m.readByte n = Config.unlistedByte := by
  induction m generalizing lo with
  | nil => rfl
  | cons c rest ih =>
    obtain ⟨j, w⟩ := c
    simp only [Memory.wfFrom, Bool.and_eq_true, decide_eq_true_eq] at hw
    rw [readByte_cons, if_neg (by omega)]
    exact ih (j + 1) hw.2 (by omega)

/-- A read after a write to the same address of a canonical memory gives the byte written. -/
theorem readByte_writeByte_same_from (m : Memory) (lo n : Nat) (v : Byte) (hw : Memory.wfFrom lo m = true) :
    (m.writeByte n v).readByte n = v := by
  induction m generalizing lo with
  | nil => unfold Memory.writeByte; split <;> simp [Memory.readByte, *]
  | cons c rest ih =>
    obtain ⟨j, w⟩ := c
    simp only [Memory.wfFrom, Bool.and_eq_true, decide_eq_true_eq] at hw
    unfold Memory.writeByte
    split
    · rename_i hlt
      split
      · rename_i hv
        rw [readByte_cons, if_neg (by omega), hv]
        exact readByte_below rest (j + 1) n hw.2 (by omega)
      · simp [readByte_cons]
    · split
      · rename_i heq
        subst heq
        split
        · rename_i hv
          rw [hv]
          exact readByte_below rest (n + 1) n hw.2 (by omega)
        · simp [readByte_cons]
      · rename_i hne
        rw [readByte_cons, if_neg (by omega)]
        exact ih (j + 1) hw.2

theorem readByte_writeByte_same (m : Memory) (n : Nat) (v : Byte) (hw : m.wf = true) : (m.writeByte n v).readByte n = v :=
  readByte_writeByte_same_from m 0 n v hw

/-- The canonical form from a later start is one from an earlier start. -/
theorem wfFrom_mono (m : Memory) (lo lo' : Nat) (h : lo' ≤ lo) (hw : Memory.wfFrom lo m = true) :
    Memory.wfFrom lo' m = true := by
  cases m with
  | nil => rfl
  | cons c rest =>
    obtain ⟨j, w⟩ := c
    simp only [Memory.wfFrom, Bool.and_eq_true, decide_eq_true_eq] at hw ⊢
    exact ⟨⟨⟨by omega, hw.1.1.2⟩, hw.1.2⟩, hw.2⟩

theorem wfFrom_writeByte (m : Memory) (lo n : Nat) (v : Byte) (hw : Memory.wfFrom lo m = true) (hlo : lo ≤ n)
    (hn : n < 65536) : Memory.wfFrom lo (m.writeByte n v) = true := by
  induction m generalizing lo with
  | nil => unfold Memory.writeByte; split <;> simp [Memory.wfFrom, *]
  | cons c rest ih =>
    obtain ⟨j, w⟩ := c
    have hw0 := hw
    simp only [Memory.wfFrom, Bool.and_eq_true, decide_eq_true_eq] at hw
    unfold Memory.writeByte
    split
    · split
      · exact hw0
      · simp only [Memory.wfFrom, Bool.and_eq_true, decide_eq_true_eq]
        exact ⟨⟨⟨hlo, hn⟩, by assumption⟩, ⟨⟨by omega, hw.1.1.2⟩, hw.1.2⟩, hw.2⟩
    · split
      · rename_i heq
        subst heq
        split
        · exact wfFrom_mono rest (n + 1) lo (by omega) hw.2
        · simp only [Memory.wfFrom, Bool.and_eq_true, decide_eq_true_eq]
          exact ⟨⟨⟨hlo, hn⟩, by assumption⟩, hw.2⟩
      · simp only [Memory.wfFrom, Bool.and_eq_true, decide_eq_true_eq]
        exact ⟨hw.1, ih (j + 1) hw.2 (by omega)⟩

/-- Every write at a 16-bit address keeps the canonical form. -/
theorem wf_writeByte (m : Memory) (a : Addr) (v : Byte) (hw : m.wf = true) : (m.writeByte a.toNat v).wf = true :=
  wfFrom_writeByte m 0 a.toNat v hw (Nat.zero_le _) a.isLt

/-- Loading bytes from outside keeps the canonical form. -/
theorem wf_writeBytes (l : List Byte) (m : Memory) (a : Addr) (hw : m.wf = true) : (m.writeBytes a l).wf = true := by
  induction l generalizing m a with
  | nil => exact hw
  | cons v rest ih => exact ih _ _ (wf_writeByte m a v hw)

end Sys2Proof.Machine
end

