-- ==== Sys2Proof/Laws/Port.lean ====
section
/-! SUPPORT. Laws/Port.lean: what a port call and a sequence of port calls can do (20_memory.md rules R40 to R44, R56). -/

namespace Sys2Proof.Machine

/-! ### One call: each field of the port after it -/

@[simp] theorem perform_read_mem (p : Port) (a : Addr) : (p.perform (.read a)).mem = p.mem := rfl
@[simp] theorem perform_read_answers (p : Port) (a : Addr) : (p.perform (.read a)).answers = p.answers.tail := rfl
@[simp] theorem perform_read_syncs (p : Port) (a : Addr) : (p.perform (.read a)).syncs = p.syncs := rfl
@[simp] theorem perform_read_log (p : Port) (a : Addr) :
    (p.perform (.read a)).log = .read a (p.answer a) :: p.log := rfl
@[simp] theorem perform_write_mem (p : Port) (a : Addr) (v : Byte) :
    (p.perform (.write a v)).mem = p.mem.writeByte a.toNat v := rfl
@[simp] theorem perform_write_answers (p : Port) (a : Addr) (v : Byte) : (p.perform (.write a v)).answers = p.answers := rfl
@[simp] theorem perform_write_syncs (p : Port) (a : Addr) (v : Byte) : (p.perform (.write a v)).syncs = p.syncs := rfl
@[simp] theorem perform_write_log (p : Port) (a : Addr) (v : Byte) : (p.perform (.write a v)).log = .write a v :: p.log := rfl
@[simp] theorem perform_idle_mem (p : Port) : (p.perform .idle).mem = p.mem := rfl
@[simp] theorem perform_idle_answers (p : Port) : (p.perform .idle).answers = p.answers := rfl
@[simp] theorem perform_idle_syncs (p : Port) : (p.perform .idle).syncs = p.syncs := rfl
@[simp] theorem perform_idle_log (p : Port) : (p.perform .idle).log = .idle :: p.log := rfl
@[simp] theorem perform_sync_mem (p : Port) : (p.perform .sync).mem = p.mem := rfl
@[simp] theorem perform_sync_answers (p : Port) : (p.perform .sync).answers = p.answers := rfl
@[simp] theorem perform_sync_syncs (p : Port) : (p.perform .sync).syncs = p.syncs.tail := rfl
@[simp] theorem perform_sync_log (p : Port) : (p.perform .sync).log = .sync p.syncAnswer :: p.log := rfl

/-- Every call adds exactly one entry to the log. -/
theorem perform_log_length (p : Port) (r : Request) : (p.perform r).log.length = p.log.length + 1 := by
  cases r <;> rfl

/-! ### Sequences of calls -/

@[simp] theorem performAll_nil (p : Port) : p.performAll [] = p := rfl
@[simp] theorem performAll_cons (p : Port) (r : Request) (rs : List Request) :
    p.performAll (r :: rs) = (p.perform r).performAll rs := rfl

theorem performAll_append (p : Port) (rs qs : List Request) :
    p.performAll (rs ++ qs) = (p.performAll rs).performAll qs := by
  induction rs generalizing p with
  | nil => rfl
  | cons r rest ih => exact ih (p.perform r)

theorem performAll_log_length (p : Port) (rs : List Request) :
    (p.performAll rs).log.length = p.log.length + rs.length := by
  induction rs generalizing p with
  | nil => rfl
  | cons r rest ih => rw [performAll_cons, ih, perform_log_length, List.length_cons]; omega

/-- The addresses a sequence of calls writes to. -/
def writtenBy : List Request → List Addr
  | [] => []
  | .read _ :: rest => writtenBy rest
  | .write a _ :: rest => a :: writtenBy rest
  | .idle :: rest => writtenBy rest
  | .sync :: rest => writtenBy rest

/-- The RAM outside the addresses written to stays as it is. -/
theorem readByte_performAll (p : Port) (rs : List Request) (a : Addr) (h : a ∉ writtenBy rs) :
    (p.performAll rs).mem.readByte a.toNat = p.mem.readByte a.toNat := by
  induction rs generalizing p with
  | nil => rfl
  | cons r rest ih =>
    cases r with
    | read b => exact ih _ h
    | idle => exact ih _ h
    | sync => exact ih _ h
    | write b v =>
      simp only [writtenBy, List.mem_cons, not_or] at h
      rw [performAll_cons, ih _ h.2, perform_write_mem]
      exact readByte_writeByte_other _ _ _ _ fun he => h.1 (BitVec.eq_of_toNat_eq he)

/-- Every sequence of calls keeps the RAM's canonical form. -/
theorem wf_performAll (p : Port) (rs : List Request) (h : p.mem.wf = true) : (p.performAll rs).mem.wf = true := by
  induction rs generalizing p with
  | nil => exact h
  | cons r rest ih =>
    cases r with
    | read b => exact ih _ h
    | idle => exact ih _ h
    | sync => exact ih _ h
    | write b v => exact ih _ (wf_writeByte _ _ _ h)

/-! ### What reads are answered with -/

/-- With no script, every read is answered by the RAM. -/
theorem answer_of_no_script (p : Port) (a : Addr) (h : p.answers = []) : p.answer a = p.mem.readByte a.toNat := by
  simp [Port.answer, h]

theorem upcoming_of_no_script (p : Port) (n : Nat) (a : Addr) (h : p.answers = []) :
    p.upcoming n a = p.mem.readByte a.toNat := by
  induction n generalizing p with
  | zero => exact answer_of_no_script p a h
  | succ n ih => exact (ih _ (by simp [h])).trans rfl

/-- The answer to a read depends only on the script and the RAM. -/
theorem answer_congr (p q : Port) (a : Addr) (hm : p.mem = q.mem) (ha : p.answers = q.answers) :
    p.answer a = q.answer a := by simp [Port.answer, hm, ha]

theorem performAll_answers_nil (p : Port) (rs : List Request) (h : p.answers = []) : (p.performAll rs).answers = [] := by
  induction rs generalizing p with
  | nil => exact h
  | cons r rest ih => cases r <;> exact ih _ (by simp [h])

end Sys2Proof.Machine
end

