-- ==== Sys2Proof/Laws/State.lean ====
section
/-! SUPPORT. Laws/State.lean: one lemma per field per update of the state, so that no later proof unfolds a record update. -/

namespace Sys2Proof.Machine

/-! ### `setReg`, `reg` -/

@[simp] theorem setReg_pc (s : State) (r : Reg) (v : Byte) : (s.setReg r v).pc = s.pc := by cases r <;> rfl
@[simp] theorem setReg_sp (s : State) (r : Reg) (v : Byte) : (s.setReg r v).sp = s.sp := by cases r <;> rfl
@[simp] theorem setReg_flags (s : State) (r : Reg) (v : Byte) : (s.setReg r v).flags = s.flags := by cases r <;> rfl
@[simp] theorem setReg_wait (s : State) (r : Reg) (v : Byte) : (s.setReg r v).wait = s.wait := by cases r <;> rfl
@[simp] theorem setReg_stop (s : State) (r : Reg) (v : Byte) : (s.setReg r v).stop = s.stop := by cases r <;> rfl
@[simp] theorem setReg_port (s : State) (r : Reg) (v : Byte) : (s.setReg r v).port = s.port := by cases r <;> rfl

@[simp] theorem setReg_a_a (s : State) (v : Byte) : (s.setReg .a v).a = v := rfl
@[simp] theorem setReg_a_y (s : State) (v : Byte) : (s.setReg .a v).y = s.y := rfl
@[simp] theorem setReg_a_x (s : State) (v : Byte) : (s.setReg .a v).x = s.x := rfl

@[simp] theorem setReg_x_a (s : State) (v : Byte) : (s.setReg .x v).a = s.a := rfl
@[simp] theorem setReg_x_y (s : State) (v : Byte) : (s.setReg .x v).y = s.y := rfl
@[simp] theorem setReg_x_x (s : State) (v : Byte) : (s.setReg .x v).x = v := rfl

@[simp] theorem setReg_y_a (s : State) (v : Byte) : (s.setReg .y v).a = s.a := rfl
@[simp] theorem setReg_y_y (s : State) (v : Byte) : (s.setReg .y v).y = v := rfl
@[simp] theorem setReg_y_x (s : State) (v : Byte) : (s.setReg .y v).x = s.x := rfl

@[simp] theorem reg_a (s : State) : s.reg .a = s.a := rfl
@[simp] theorem reg_x (s : State) : s.reg .x = s.x := rfl
@[simp] theorem reg_y (s : State) : s.reg .y = s.y := rfl

@[simp] theorem reg_setReg_same (s : State) (r : Reg) (v : Byte) : (s.setReg r v).reg r = v := by cases r <;> rfl

theorem reg_setReg_other (s : State) (r q : Reg) (v : Byte) (h : q ≠ r) : (s.setReg r v).reg q = s.reg q := by
  cases r <;> cases q <;> first | rfl | exact absurd rfl h

/-! ### `setYa` -/

@[simp] theorem setYa_pc (s : State) (w : Addr) : (s.setYa w).pc = s.pc := rfl
@[simp] theorem setYa_a (s : State) (w : Addr) : (s.setYa w).a = loByte w := rfl
@[simp] theorem setYa_y (s : State) (w : Addr) : (s.setYa w).y = hiByte w := rfl
@[simp] theorem setYa_x (s : State) (w : Addr) : (s.setYa w).x = s.x := rfl
@[simp] theorem setYa_sp (s : State) (w : Addr) : (s.setYa w).sp = s.sp := rfl
@[simp] theorem setYa_flags (s : State) (w : Addr) : (s.setYa w).flags = s.flags := rfl
@[simp] theorem setYa_wait (s : State) (w : Addr) : (s.setYa w).wait = s.wait := rfl
@[simp] theorem setYa_stop (s : State) (w : Addr) : (s.setYa w).stop = s.stop := rfl
@[simp] theorem setYa_port (s : State) (w : Addr) : (s.setYa w).port = s.port := rfl

/-! ### `mapFlags`, `transfer` -/

@[simp] theorem mapFlags_pc (s : State) (f : Flags → Flags) : (s.mapFlags f).pc = s.pc := rfl
@[simp] theorem mapFlags_a (s : State) (f : Flags → Flags) : (s.mapFlags f).a = s.a := rfl
@[simp] theorem mapFlags_y (s : State) (f : Flags → Flags) : (s.mapFlags f).y = s.y := rfl
@[simp] theorem mapFlags_x (s : State) (f : Flags → Flags) : (s.mapFlags f).x = s.x := rfl
@[simp] theorem mapFlags_sp (s : State) (f : Flags → Flags) : (s.mapFlags f).sp = s.sp := rfl
@[simp] theorem mapFlags_flags (s : State) (f : Flags → Flags) : (s.mapFlags f).flags = f s.flags := rfl
@[simp] theorem mapFlags_wait (s : State) (f : Flags → Flags) : (s.mapFlags f).wait = s.wait := rfl
@[simp] theorem mapFlags_stop (s : State) (f : Flags → Flags) : (s.mapFlags f).stop = s.stop := rfl
@[simp] theorem mapFlags_port (s : State) (f : Flags → Flags) : (s.mapFlags f).port = s.port := rfl

@[simp] theorem transfer_pc (s : State) (r : Reg) (v : Byte) : (s.transfer r v).pc = s.pc := by cases r <;> rfl
@[simp] theorem transfer_sp (s : State) (r : Reg) (v : Byte) : (s.transfer r v).sp = s.sp := by cases r <;> rfl
@[simp] theorem transfer_flags (s : State) (r : Reg) (v : Byte) : (s.transfer r v).flags = setZN v s.flags := by cases r <;> rfl
@[simp] theorem transfer_wait (s : State) (r : Reg) (v : Byte) : (s.transfer r v).wait = s.wait := by cases r <;> rfl
@[simp] theorem transfer_stop (s : State) (r : Reg) (v : Byte) : (s.transfer r v).stop = s.stop := by cases r <;> rfl
@[simp] theorem transfer_port (s : State) (r : Reg) (v : Byte) : (s.transfer r v).port = s.port := by cases r <;> rfl

/-! ### The ALU applied to registers -/

@[simp] theorem applyAlu2_pc (s : State) (f : Alu2) (r : Reg) (v : Byte) : (s.applyAlu2 f r v).pc = s.pc := by cases r <;> rfl
@[simp] theorem applyAlu2_sp (s : State) (f : Alu2) (r : Reg) (v : Byte) : (s.applyAlu2 f r v).sp = s.sp := by cases r <;> rfl
@[simp] theorem applyAlu2_flags (s : State) (f : Alu2) (r : Reg) (v : Byte) : (s.applyAlu2 f r v).flags = (alu2 f (s.reg r) v s.flags).2 := by cases r <;> rfl
@[simp] theorem applyAlu2_wait (s : State) (f : Alu2) (r : Reg) (v : Byte) : (s.applyAlu2 f r v).wait = s.wait := by cases r <;> rfl
@[simp] theorem applyAlu2_stop (s : State) (f : Alu2) (r : Reg) (v : Byte) : (s.applyAlu2 f r v).stop = s.stop := by cases r <;> rfl
@[simp] theorem applyAlu2_port (s : State) (f : Alu2) (r : Reg) (v : Byte) : (s.applyAlu2 f r v).port = s.port := by cases r <;> rfl

@[simp] theorem reg_applyAlu2_same (s : State) (f : Alu2) (r : Reg) (v : Byte) :
    (s.applyAlu2 f r v).reg r = (alu2 f (s.reg r) v s.flags).1 := by cases r <;> rfl

theorem reg_applyAlu2_other (s : State) (f : Alu2) (r q : Reg) (v : Byte) (h : q ≠ r) :
    (s.applyAlu2 f r v).reg q = s.reg q := by
  cases r <;> cases q <;> first | rfl | exact absurd rfl h

/-- A compare leaves every register: the result written back is the old value (R93). -/
theorem reg_applyAlu2_cmp (s : State) (r q : Reg) (v : Byte) : (s.applyAlu2 .cmp r v).reg q = s.reg q := by
  cases r <;> cases q <;> rfl

@[simp] theorem applyAlu1_pc (s : State) (f : Alu1) (r : Reg) : (s.applyAlu1 f r).pc = s.pc := by cases r <;> rfl
@[simp] theorem applyAlu1_sp (s : State) (f : Alu1) (r : Reg) : (s.applyAlu1 f r).sp = s.sp := by cases r <;> rfl
@[simp] theorem applyAlu1_flags (s : State) (f : Alu1) (r : Reg) : (s.applyAlu1 f r).flags = (alu1 f (s.reg r) s.flags).2 := by cases r <;> rfl
@[simp] theorem applyAlu1_wait (s : State) (f : Alu1) (r : Reg) : (s.applyAlu1 f r).wait = s.wait := by cases r <;> rfl
@[simp] theorem applyAlu1_stop (s : State) (f : Alu1) (r : Reg) : (s.applyAlu1 f r).stop = s.stop := by cases r <;> rfl
@[simp] theorem applyAlu1_port (s : State) (f : Alu1) (r : Reg) : (s.applyAlu1 f r).port = s.port := by cases r <;> rfl

@[simp] theorem reg_applyAlu1_same (s : State) (f : Alu1) (r : Reg) :
    (s.applyAlu1 f r).reg r = (alu1 f (s.reg r) s.flags).1 := by cases r <;> rfl

theorem reg_applyAlu1_other (s : State) (f : Alu1) (r q : Reg) (h : q ≠ r) : (s.applyAlu1 f r).reg q = s.reg q := by
  cases r <;> cases q <;> first | rfl | exact absurd rfl h

@[simp] theorem applyAluW_pc (s : State) (f : AluW) (w : Addr) : (s.applyAluW f w).pc = s.pc := rfl
@[simp] theorem applyAluW_a (s : State) (f : AluW) (w : Addr) : (s.applyAluW f w).a = loByte (aluW f s.ya w s.flags).1 := rfl
@[simp] theorem applyAluW_y (s : State) (f : AluW) (w : Addr) : (s.applyAluW f w).y = hiByte (aluW f s.ya w s.flags).1 := rfl
@[simp] theorem applyAluW_x (s : State) (f : AluW) (w : Addr) : (s.applyAluW f w).x = s.x := rfl
@[simp] theorem applyAluW_sp (s : State) (f : AluW) (w : Addr) : (s.applyAluW f w).sp = s.sp := rfl
@[simp] theorem applyAluW_flags (s : State) (f : AluW) (w : Addr) : (s.applyAluW f w).flags = (aluW f s.ya w s.flags).2 := rfl
@[simp] theorem applyAluW_wait (s : State) (f : AluW) (w : Addr) : (s.applyAluW f w).wait = s.wait := rfl
@[simp] theorem applyAluW_stop (s : State) (f : AluW) (w : Addr) : (s.applyAluW f w).stop = s.stop := rfl
@[simp] theorem applyAluW_port (s : State) (f : AluW) (w : Addr) : (s.applyAluW f w).port = s.port := rfl

@[simp] theorem applyMul_pc (s : State) : (s.applyMul).pc = s.pc := rfl
@[simp] theorem applyMul_a (s : State) : (s.applyMul).a = (mul s.y s.a s.flags).1 := rfl
@[simp] theorem applyMul_y (s : State) : (s.applyMul).y = (mul s.y s.a s.flags).2.1 := rfl
@[simp] theorem applyMul_x (s : State) : (s.applyMul).x = s.x := rfl
@[simp] theorem applyMul_sp (s : State) : (s.applyMul).sp = s.sp := rfl
@[simp] theorem applyMul_flags (s : State) : (s.applyMul).flags = (mul s.y s.a s.flags).2.2 := rfl
@[simp] theorem applyMul_wait (s : State) : (s.applyMul).wait = s.wait := rfl
@[simp] theorem applyMul_stop (s : State) : (s.applyMul).stop = s.stop := rfl
@[simp] theorem applyMul_port (s : State) : (s.applyMul).port = s.port := rfl

@[simp] theorem applyDiv_pc (s : State) : (s.applyDiv).pc = s.pc := rfl
@[simp] theorem applyDiv_a (s : State) : (s.applyDiv).a = (div s.a s.y s.x s.flags).1 := rfl
@[simp] theorem applyDiv_y (s : State) : (s.applyDiv).y = (div s.a s.y s.x s.flags).2.1 := rfl
@[simp] theorem applyDiv_x (s : State) : (s.applyDiv).x = s.x := rfl
@[simp] theorem applyDiv_sp (s : State) : (s.applyDiv).sp = s.sp := rfl
@[simp] theorem applyDiv_flags (s : State) : (s.applyDiv).flags = (div s.a s.y s.x s.flags).2.2 := rfl
@[simp] theorem applyDiv_wait (s : State) : (s.applyDiv).wait = s.wait := rfl
@[simp] theorem applyDiv_stop (s : State) : (s.applyDiv).stop = s.stop := rfl
@[simp] theorem applyDiv_port (s : State) : (s.applyDiv).port = s.port := rfl

/-! ### Register changes of a rule: `change` writes the field and no other -/

@[simp] theorem change_pc (v : State → Addr) (s : State) : (change fun t => { t with pc := v t }) s = ((), { s with pc := v s }) := rfl
@[simp] theorem change_a (v : State → Byte) (s : State) : (change fun t => { t with a := v t }) s = ((), { s with a := v s }) := rfl
@[simp] theorem change_y (v : State → Byte) (s : State) : (change fun t => { t with y := v t }) s = ((), { s with y := v s }) := rfl
@[simp] theorem change_x (v : State → Byte) (s : State) : (change fun t => { t with x := v t }) s = ((), { s with x := v s }) := rfl
@[simp] theorem change_sp (v : State → Byte) (s : State) : (change fun t => { t with sp := v t }) s = ((), { s with sp := v s }) := rfl
@[simp] theorem change_flags (v : State → Flags) (s : State) : (change fun t => { t with flags := v t }) s = ((), { s with flags := v s }) := rfl
@[simp] theorem change_wait (v : State → Bool) (s : State) : (change fun t => { t with wait := v t }) s = ((), { s with wait := v s }) := rfl
@[simp] theorem change_stop (v : State → Bool) (s : State) : (change fun t => { t with stop := v t }) s = ((), { s with stop := v s }) := rfl
@[simp] theorem change_port (v : State → Port) (s : State) : (change fun t => { t with port := v t }) s = ((), { s with port := v s }) := rfl

end Sys2Proof.Machine
end

