-- ==== Sys2Proof/Laws/Ops.lean ====
section
/-! SUPPORT. Laws/Ops.lean: for each shared operation one lemma that says everything it does: its value and the state after
it, every port call in order. Later proofs cite these and do not unfold the operations. -/

namespace Sys2Proof.Machine

/-! ### Port calls and fetches -/

theorem memRead_run (a : Addr) (s : State) :
    memRead a s = (s.port.answer a, { s with port := s.port.perform (.read a) }) := rfl

theorem memWrite_run (a : Addr) (v : Byte) (s : State) :
    memWrite a v s = ((), { s with port := s.port.perform (.write a v) }) := rfl

theorem fetch_run (s : State) :
    fetch s = (s.port.answer s.pc, { s with pc := s.pc + 1, port := s.port.perform (.read s.pc) }) := rfl

theorem fetchOperand_run (s : State) :
    fetchOperand s = ((), { s with pc := s.pc + 1, port := s.port.perform (.read s.pc) }) := rfl

theorem dummyRead_run (s : State) : dummyRead s = ((), { s with port := s.port.perform (.read s.pc) }) := rfl

theorem idles_run (n : Nat) (s : State) :
    idles n s = ((), { s with port := s.port.performAll (List.replicate n .idle) }) := rfl

/-! ### Direct page and stack -/

theorem load_run (d : Byte) (s : State) :
    load d s = (s.port.answer (s.dp d), { s with port := s.port.perform (.read (s.dp d)) }) := rfl

theorem store_run (d v : Byte) (s : State) :
    store d v s = ((), { s with port := s.port.perform (.write (s.dp d) v) }) := rfl

theorem loadPointer_run (d : Byte) (s : State) :
    loadPointer d s =
      (wordOf (s.port.answer (s.dp d)) ((s.port.perform (.read (s.dp d))).answer (s.dp (d + 1))),
       { s with port := s.port.performAll [.read (s.dp d), .read (s.dp (d + 1))] }) := rfl

theorem push_run (v : Byte) (s : State) :
    push v s = ((), { s with sp := s.sp - 1, port := s.port.perform (.write s.stackAddr v) }) := rfl

theorem pull_run (s : State) :
    pull s =
      (s.port.answer (wordOf (s.sp + 1) Config.stackPage),
       { s with sp := s.sp + 1, port := s.port.perform (.read (wordOf (s.sp + 1) Config.stackPage)) }) := rfl

theorem pushPc_run (s : State) :
    pushPc s =
      ((), { s with
        sp := s.sp - 1 - 1
        port := s.port.performAll
          [.write s.stackAddr (hiByte s.pc), .write (wordOf (s.sp - 1) Config.stackPage) (loByte s.pc)] }) := rfl

/-! ### Control transfer, `BRK` and `RETI` -/

theorem jumpThrough_run (t : Addr) (s : State) :
    jumpThrough t s =
      ((), { s with
        pc := wordOf (s.port.answer t) ((s.port.perform (.read t)).answer (t + 1))
        port := s.port.performAll [.read t, .read (t + 1)] }) := rfl

theorem branchIf_run (taken : Bool) (r : Byte) (s : State) :
    branchIf taken r s =
      ((), if taken then { s with pc := s.branchTarget r, port := s.port.performAll [.idle, .idle] } else s) := by
  cases taken <;> rfl

theorem enterBreak_run (s : State) :
    enterBreak s =
      (let p := s.port.performAll
        [.write s.stackAddr (hiByte s.pc), .write (wordOf (s.sp - 1) Config.stackPage) (loByte s.pc),
         .write (wordOf (s.sp - 1 - 1) Config.stackPage) (packPsw s.flags), .idle]
      ((), { s with
        pc := wordOf (p.answer Config.brkVector) ((p.perform (.read Config.brkVector)).answer (Config.brkVector + 1))
        sp := s.sp - 1 - 1 - 1
        flags := { s.flags with iflag := false, bf := true }
        port := p.performAll [.read Config.brkVector, .read (Config.brkVector + 1)] })) := rfl

theorem returnFromBreak_run (s : State) :
    returnFromBreak s =
      (let top := fun k : Byte => wordOf k Config.stackPage
      ((), { s with
        pc := wordOf (s.port.upcoming 1 (top (s.sp + 1 + 1))) (s.port.upcoming 2 (top (s.sp + 1 + 1 + 1)))
        sp := s.sp + 1 + 1 + 1
        flags := unpackPsw (s.port.answer (top (s.sp + 1)))
        port := s.port.performAll [.read (top (s.sp + 1)), .read (top (s.sp + 1 + 1)), .read (top (s.sp + 1 + 1 + 1))] })) := rfl

/-! ### The halt loop -/

theorem haltLoopFor_run (l : List Bool) (s : State) (h : s.port.syncs = l) :
    haltLoopFor l.length s = ((), { s with port := s.port.performAll (haltRequests s.pc l) }) := by
  induction l generalizing s with
  | nil => rfl
  | cons b rest ih =>
    have hb : s.port.syncAnswer = b := by simp [Port.syncAnswer, h]
    cases b with
    | true =>
      show (if s.port.syncAnswer then _ else _ : Prog Unit) _ = _
      rw [hb]; rfl
    | false =>
      show (if s.port.syncAnswer then _ else _ : Prog Unit) _ = _
      rw [hb]
      exact ih { s with port := s.port.performAll [.sync, .read s.pc, .idle] } (by simp [h])

/-- Everything the halt loop does (R334): its port calls, and nothing else. -/
theorem haltLoop_run (s : State) :
    haltLoop s = ((), { s with port := s.port.performAll (haltRequests s.pc s.port.syncs) }) :=
  haltLoopFor_run s.port.syncs s rfl

end Sys2Proof.Machine
end

