-- ==== Sys2Proof/Laws/Executors.lean ====
section
/-! SUPPORT. Laws/Executors.lean: for each executor shape of Machine/Operands.lean one lemma that says everything it does. -/

namespace Sys2Proof.Machine

/-- The port calls that find the address of an operand form, in order. -/
def modeRequests : Mode → State → List Request
  | .direct _, s => [.read s.pc]
  | .directIndexed _ _, s => [.read s.pc, .idle]
  | .absolute _, s => [.read s.pc, .read (s.pc + 1)]
  | .absoluteIndexed _ _, s => [.read s.pc, .read (s.pc + 1), .idle]
  | .indirectX, s => [.read s.pc]
  | .indexedIndirect d, s => [.read s.pc, .idle, .read (s.dp (d + s.x)), .read (s.dp (d + s.x + 1))]
  | .indirectIndexed d, s => [.read s.pc, .read (s.dp d), .read (s.dp (d + 1)), .idle]

/-- Where PC is after the operand bytes of a form. -/
def modePc : Mode → State → Addr
  | .direct _, s => s.pc + 1
  | .directIndexed _ _, s => s.pc + 1
  | .absolute _, s => s.pc + 1 + 1
  | .absoluteIndexed _ _, s => s.pc + 1 + 1
  | .indirectX, s => s.pc
  | .indexedIndirect _, s => s.pc + 1
  | .indirectIndexed _, s => s.pc + 1

/-- Finding an address reads and idles, moves PC, and does nothing else: no write, no other register, no flag. -/
theorem effectiveAddress_state (m : Mode) (s : State) :
    (effectiveAddress m s).2 = { s with pc := modePc m s, port := s.port.performAll (modeRequests m s) } := by
  cases m <;> rfl

theorem modeRequests_write_nothing (m : Mode) (s : State) : writtenBy (modeRequests m s) = [] := by
  cases m <;> rfl

theorem immediateRead_run (f : Alu2) (r : Reg) (i : Byte) (s : State) :
    (immediateRead f r i s).2 = State.applyAlu2 { s with pc := s.pc + 1, port := s.port.perform (.read s.pc) } f r i := rfl

theorem readInto_run (f : Alu2) (r : Reg) (m : Mode) (s : State) :
    (readInto f r m s).2 =
      (let a := (effectiveAddress m s).1
       let t := (effectiveAddress m s).2
       State.applyAlu2 { t with port := t.port.perform (.read a) } f r (t.port.answer a)) := rfl

theorem storeFrom_run (r : Reg) (m : Mode) (s : State) :
    (storeFrom r m s).2 =
      (let a := (effectiveAddress m s).1
       let t := (effectiveAddress m s).2
       { t with port := t.port.performAll [.read a, .write a (s.reg r)] }) := by
  cases m <;> cases r <;> rfl

theorem modifyAt_run (f : Alu1) (m : Mode) (s : State) :
    (modifyAt f m s).2 =
      (let a := (effectiveAddress m s).1
       let t := (effectiveAddress m s).2
       let q := alu1 f (t.port.answer a) s.flags
       { t with flags := q.2, port := t.port.performAll [.read a, .write a q.1] }) := by
  cases m <;> rfl

theorem readWord_run (f : AluW) (d : Byte) (s : State) :
    (readWord f d s).2 =
      State.applyAluW
        { s with
          pc := s.pc + 1
          port := s.port.performAll [.read s.pc, .read (s.dp d), .idle, .read (s.dp (d + 1))] }
        f (wordOf (s.port.upcoming 1 (s.dp d)) (s.port.upcoming 2 (s.dp (d + 1)))) := rfl

theorem modifyDirectDirect_run (f : Alu2) (dd ds : Byte) (s : State) :
    (modifyDirectDirect f dd ds s).2 =
      (let q := alu2 f (s.port.upcoming 3 (s.dp dd)) (s.port.upcoming 1 (s.dp ds)) s.flags
       { s with
         pc := s.pc + 1 + 1
         flags := q.2
         port := s.port.performAll
           [.read s.pc, .read (s.dp ds), .read (s.pc + 1), .read (s.dp dd), .write (s.dp dd) q.1] }) := rfl

theorem modifyDirectImmediate_run (f : Alu2) (d i : Byte) (s : State) :
    (modifyDirectImmediate f d i s).2 =
      (let q := alu2 f (s.port.upcoming 2 (s.dp d)) i s.flags
       { s with
         pc := s.pc + 1 + 1
         flags := q.2
         port := s.port.performAll [.read s.pc, .read (s.pc + 1), .read (s.dp d), .write (s.dp d) q.1] }) := rfl

theorem modifyIndirect_run (f : Alu2) (s : State) :
    (modifyIndirect f s).2 =
      (let q := alu2 f (s.port.upcoming 2 (s.dp s.x)) (s.port.upcoming 1 (s.dp s.y)) s.flags
       { s with
         flags := q.2
         port := s.port.performAll [.read s.pc, .read (s.dp s.y), .read (s.dp s.x), .write (s.dp s.x) q.1] }) := rfl

theorem writeDirectBit_run (b : Nat) (c : Bool) (d : Byte) (s : State) :
    (writeDirectBit b c d s).2 =
      { s with
        pc := s.pc + 1
        port := s.port.performAll
          [.read s.pc, .read (s.dp d), .write (s.dp d) (setBit (s.port.upcoming 1 (s.dp d)) b c)] } := rfl

theorem testAndModify_run (f : Byte → Byte → Byte) (a : Addr) (s : State) :
    (testAndModify f a s).2 =
      { s with
        pc := s.pc + 1 + 1
        flags := setZN (s.a - s.port.upcoming 2 a) s.flags
        port := s.port.performAll
          [.read s.pc, .read (s.pc + 1), .read a, .read a, .write a (f (s.port.upcoming 2 a) s.a)] } := rfl

theorem branchOn_run (cond : Flags → Bool) (r : Byte) (s : State) :
    (branchOn cond r s).2 = s.branched [.read s.pc] (s.pc + 1) (cond s.flags) r := by
  show (branchIf (cond s.flags) r _).2 = _
  rw [branchIf_run]
  cases cond s.flags <;> rfl

theorem branchOnBit_run (b : Nat) (c : Bool) (d r : Byte) (s : State) :
    (branchOnBit b c d r s).2 =
      s.branched [.read s.pc, .read (s.dp d), .idle, .read (s.pc + 1)] (s.pc + 1 + 1)
        ((s.port.upcoming 1 (s.dp d)).getLsbD b == c) r := by
  show (branchIf ((s.port.upcoming 1 (s.dp d)).getLsbD b == c) r _).2 = _
  rw [branchIf_run]
  cases (s.port.upcoming 1 (s.dp d)).getLsbD b == c <;> rfl

theorem oneByte_run (n : Nat) (f : State → State) (s : State) :
    (oneByte n f s).2 = f { s with port := s.port.performAll (.read s.pc :: List.replicate n .idle) } := by
  show f (idles n _).2 = _
  rw [idles_run]; rfl

theorem pushOf_run (v : State → Byte) (s : State) :
    (pushOf v s).2 =
      { s with
        sp := s.sp - 1
        port := s.port.performAll
          [.read s.pc, .write s.stackAddr (v { s with port := s.port.perform (.read s.pc) }), .idle] } := rfl

theorem popInto_run (r : Reg) (s : State) :
    (popInto r s).2 =
      State.setReg
        { s with
          sp := s.sp + 1
          port := s.port.performAll [.read s.pc, .idle, .read (wordOf (s.sp + 1) Config.stackPage)] }
        r (s.port.upcoming 1 (wordOf (s.sp + 1) Config.stackPage)) := rfl

end Sys2Proof.Machine
end

