-- ==== Sys2Proof/Laws/PerInstr.lean ====
section
/-! SUPPORT. Laws/PerInstr.lean: statements made once per instruction. Family `EncodedLength`: the encoder gives every
instruction as many bytes as the length column of 30_encoding.md rule R71 says, whatever its operands. -/

namespace Sys2Proof.Laws.EncodedLength

/-- The bytes of `i` are as many as its length. -/
def Statement (i : Instr) : Prop := (encode i).length = i.length

theorem orAImm (i : Byte) : Statement (.orAImm i) := rfl
theorem andAImm (i : Byte) : Statement (.andAImm i) := rfl
theorem eorAImm (i : Byte) : Statement (.eorAImm i) := rfl
theorem cmpAImm (i : Byte) : Statement (.cmpAImm i) := rfl
theorem adcAImm (i : Byte) : Statement (.adcAImm i) := rfl
theorem sbcAImm (i : Byte) : Statement (.sbcAImm i) := rfl
theorem movAImm (i : Byte) : Statement (.movAImm i) := rfl
theorem movXImm (i : Byte) : Statement (.movXImm i) := rfl
theorem movYImm (i : Byte) : Statement (.movYImm i) := rfl
theorem cmpXImm (i : Byte) : Statement (.cmpXImm i) := rfl
theorem cmpYImm (i : Byte) : Statement (.cmpYImm i) := rfl
theorem orAD (d : Byte) : Statement (.orAD d) := rfl
theorem andAD (d : Byte) : Statement (.andAD d) := rfl
theorem eorAD (d : Byte) : Statement (.eorAD d) := rfl
theorem cmpAD (d : Byte) : Statement (.cmpAD d) := rfl
theorem adcAD (d : Byte) : Statement (.adcAD d) := rfl
theorem sbcAD (d : Byte) : Statement (.sbcAD d) := rfl
theorem movAD (d : Byte) : Statement (.movAD d) := rfl
theorem movXD (d : Byte) : Statement (.movXD d) := rfl
theorem movYD (d : Byte) : Statement (.movYD d) := rfl
theorem cmpXD (d : Byte) : Statement (.cmpXD d) := rfl
theorem cmpYD (d : Byte) : Statement (.cmpYD d) := rfl
theorem orAAbs (a : Addr) : Statement (.orAAbs a) := rfl
theorem andAAbs (a : Addr) : Statement (.andAAbs a) := rfl
theorem eorAAbs (a : Addr) : Statement (.eorAAbs a) := rfl
theorem cmpAAbs (a : Addr) : Statement (.cmpAAbs a) := rfl
theorem adcAAbs (a : Addr) : Statement (.adcAAbs a) := rfl
theorem sbcAAbs (a : Addr) : Statement (.sbcAAbs a) := rfl
theorem movAAbs (a : Addr) : Statement (.movAAbs a) := rfl
theorem movXAbs (a : Addr) : Statement (.movXAbs a) := rfl
theorem movYAbs (a : Addr) : Statement (.movYAbs a) := rfl
theorem cmpXAbs (a : Addr) : Statement (.cmpXAbs a) := rfl
theorem cmpYAbs (a : Addr) : Statement (.cmpYAbs a) := rfl
theorem orADX (d : Byte) : Statement (.orADX d) := rfl
theorem andADX (d : Byte) : Statement (.andADX d) := rfl
theorem eorADX (d : Byte) : Statement (.eorADX d) := rfl
theorem cmpADX (d : Byte) : Statement (.cmpADX d) := rfl
theorem adcADX (d : Byte) : Statement (.adcADX d) := rfl
theorem sbcADX (d : Byte) : Statement (.sbcADX d) := rfl
theorem movADX (d : Byte) : Statement (.movADX d) := rfl
theorem movXDY (d : Byte) : Statement (.movXDY d) := rfl
theorem movYDX (d : Byte) : Statement (.movYDX d) := rfl
theorem orAAbsX (a : Addr) : Statement (.orAAbsX a) := rfl
theorem andAAbsX (a : Addr) : Statement (.andAAbsX a) := rfl
theorem eorAAbsX (a : Addr) : Statement (.eorAAbsX a) := rfl
theorem cmpAAbsX (a : Addr) : Statement (.cmpAAbsX a) := rfl
theorem adcAAbsX (a : Addr) : Statement (.adcAAbsX a) := rfl
theorem sbcAAbsX (a : Addr) : Statement (.sbcAAbsX a) := rfl
theorem movAAbsX (a : Addr) : Statement (.movAAbsX a) := rfl
theorem orAAbsY (a : Addr) : Statement (.orAAbsY a) := rfl
theorem andAAbsY (a : Addr) : Statement (.andAAbsY a) := rfl
theorem eorAAbsY (a : Addr) : Statement (.eorAAbsY a) := rfl
theorem cmpAAbsY (a : Addr) : Statement (.cmpAAbsY a) := rfl
theorem adcAAbsY (a : Addr) : Statement (.adcAAbsY a) := rfl
theorem sbcAAbsY (a : Addr) : Statement (.sbcAAbsY a) := rfl
theorem movAAbsY (a : Addr) : Statement (.movAAbsY a) := rfl
theorem orAIndX : Statement (.orAIndX) := rfl
theorem andAIndX : Statement (.andAIndX) := rfl
theorem eorAIndX : Statement (.eorAIndX) := rfl
theorem cmpAIndX : Statement (.cmpAIndX) := rfl
theorem adcAIndX : Statement (.adcAIndX) := rfl
theorem sbcAIndX : Statement (.sbcAIndX) := rfl
theorem movAIndX : Statement (.movAIndX) := rfl
theorem orAIndDX (d : Byte) : Statement (.orAIndDX d) := rfl
theorem andAIndDX (d : Byte) : Statement (.andAIndDX d) := rfl
theorem eorAIndDX (d : Byte) : Statement (.eorAIndDX d) := rfl
theorem cmpAIndDX (d : Byte) : Statement (.cmpAIndDX d) := rfl
theorem adcAIndDX (d : Byte) : Statement (.adcAIndDX d) := rfl
theorem sbcAIndDX (d : Byte) : Statement (.sbcAIndDX d) := rfl
theorem movAIndDX (d : Byte) : Statement (.movAIndDX d) := rfl
theorem orAIndDY (d : Byte) : Statement (.orAIndDY d) := rfl
theorem andAIndDY (d : Byte) : Statement (.andAIndDY d) := rfl
theorem eorAIndDY (d : Byte) : Statement (.eorAIndDY d) := rfl
theorem cmpAIndDY (d : Byte) : Statement (.cmpAIndDY d) := rfl
theorem adcAIndDY (d : Byte) : Statement (.adcAIndDY d) := rfl
theorem sbcAIndDY (d : Byte) : Statement (.sbcAIndDY d) := rfl
theorem movAIndDY (d : Byte) : Statement (.movAIndDY d) := rfl
theorem movAIndXInc : Statement (.movAIndXInc) := rfl
theorem addwYaD (d : Byte) : Statement (.addwYaD d) := rfl
theorem subwYaD (d : Byte) : Statement (.subwYaD d) := rfl
theorem movwYaD (d : Byte) : Statement (.movwYaD d) := rfl
theorem cmpwYaD (d : Byte) : Statement (.cmpwYaD d) := rfl
theorem movDA (d : Byte) : Statement (.movDA d) := rfl
theorem movDX (d : Byte) : Statement (.movDX d) := rfl
theorem movDY (d : Byte) : Statement (.movDY d) := rfl
theorem movAbsA (a : Addr) : Statement (.movAbsA a) := rfl
theorem movAbsX (a : Addr) : Statement (.movAbsX a) := rfl
theorem movAbsY (a : Addr) : Statement (.movAbsY a) := rfl
theorem movDXA (d : Byte) : Statement (.movDXA d) := rfl
theorem movDYX (d : Byte) : Statement (.movDYX d) := rfl
theorem movDXY (d : Byte) : Statement (.movDXY d) := rfl
theorem movAbsXA (a : Addr) : Statement (.movAbsXA a) := rfl
theorem movAbsYA (a : Addr) : Statement (.movAbsYA a) := rfl
theorem movIndXA : Statement (.movIndXA) := rfl
theorem movIndDXA (d : Byte) : Statement (.movIndDXA d) := rfl
theorem movIndDYA (d : Byte) : Statement (.movIndDYA d) := rfl
theorem movIndXIncA : Statement (.movIndXIncA) := rfl
theorem movwDYa (d : Byte) : Statement (.movwDYa d) := rfl
theorem movDImm (d : Byte) (i : Byte) : Statement (.movDImm d i) := rfl
theorem aslD (d : Byte) : Statement (.aslD d) := rfl
theorem rolD (d : Byte) : Statement (.rolD d) := rfl
theorem lsrD (d : Byte) : Statement (.lsrD d) := rfl
theorem rorD (d : Byte) : Statement (.rorD d) := rfl
theorem decD (d : Byte) : Statement (.decD d) := rfl
theorem incD (d : Byte) : Statement (.incD d) := rfl
theorem aslAbs (a : Addr) : Statement (.aslAbs a) := rfl
theorem rolAbs (a : Addr) : Statement (.rolAbs a) := rfl
theorem lsrAbs (a : Addr) : Statement (.lsrAbs a) := rfl
theorem rorAbs (a : Addr) : Statement (.rorAbs a) := rfl
theorem decAbs (a : Addr) : Statement (.decAbs a) := rfl
theorem incAbs (a : Addr) : Statement (.incAbs a) := rfl
theorem aslDX (d : Byte) : Statement (.aslDX d) := rfl
theorem rolDX (d : Byte) : Statement (.rolDX d) := rfl
theorem lsrDX (d : Byte) : Statement (.lsrDX d) := rfl
theorem rorDX (d : Byte) : Statement (.rorDX d) := rfl
theorem decDX (d : Byte) : Statement (.decDX d) := rfl
theorem incDX (d : Byte) : Statement (.incDX d) := rfl
theorem decwD (d : Byte) : Statement (.decwD d) := rfl
theorem incwD (d : Byte) : Statement (.incwD d) := rfl
theorem orDdDs (dd : Byte) (ds : Byte) : Statement (.orDdDs dd ds) := rfl
theorem andDdDs (dd : Byte) (ds : Byte) : Statement (.andDdDs dd ds) := rfl
theorem eorDdDs (dd : Byte) (ds : Byte) : Statement (.eorDdDs dd ds) := rfl
theorem adcDdDs (dd : Byte) (ds : Byte) : Statement (.adcDdDs dd ds) := rfl
theorem sbcDdDs (dd : Byte) (ds : Byte) : Statement (.sbcDdDs dd ds) := rfl
theorem cmpDdDs (dd : Byte) (ds : Byte) : Statement (.cmpDdDs dd ds) := rfl
theorem movDdDs (dd : Byte) (ds : Byte) : Statement (.movDdDs dd ds) := rfl
theorem orDImm (d : Byte) (i : Byte) : Statement (.orDImm d i) := rfl
theorem andDImm (d : Byte) (i : Byte) : Statement (.andDImm d i) := rfl
theorem eorDImm (d : Byte) (i : Byte) : Statement (.eorDImm d i) := rfl
theorem adcDImm (d : Byte) (i : Byte) : Statement (.adcDImm d i) := rfl
theorem sbcDImm (d : Byte) (i : Byte) : Statement (.sbcDImm d i) := rfl
theorem cmpDImm (d : Byte) (i : Byte) : Statement (.cmpDImm d i) := rfl
theorem orIndXIndY : Statement (.orIndXIndY) := rfl
theorem andIndXIndY : Statement (.andIndXIndY) := rfl
theorem eorIndXIndY : Statement (.eorIndXIndY) := rfl
theorem adcIndXIndY : Statement (.adcIndXIndY) := rfl
theorem sbcIndXIndY : Statement (.sbcIndXIndY) := rfl
theorem cmpIndXIndY : Statement (.cmpIndXIndY) := rfl
theorem or1CMb (a : Addr) (b : Nat) : Statement (.or1CMb a b) := rfl
theorem or1CNotMb (a : Addr) (b : Nat) : Statement (.or1CNotMb a b) := rfl
theorem and1CMb (a : Addr) (b : Nat) : Statement (.and1CMb a b) := rfl
theorem and1CNotMb (a : Addr) (b : Nat) : Statement (.and1CNotMb a b) := rfl
theorem eor1CMb (a : Addr) (b : Nat) : Statement (.eor1CMb a b) := rfl
theorem mov1CMb (a : Addr) (b : Nat) : Statement (.mov1CMb a b) := rfl
theorem mov1MbC (a : Addr) (b : Nat) : Statement (.mov1MbC a b) := rfl
theorem not1Mb (a : Addr) (b : Nat) : Statement (.not1Mb a b) := rfl
theorem set1Dbit (b : Nat) (d : Byte) : Statement (.set1Dbit b d) := rfl
theorem clr1Dbit (b : Nat) (d : Byte) : Statement (.clr1Dbit b d) := rfl
theorem tset1Abs (a : Addr) : Statement (.tset1Abs a) := rfl
theorem tclr1Abs (a : Addr) : Statement (.tclr1Abs a) := rfl
theorem bbsDbitRel (b : Nat) (d : Byte) (r : Byte) : Statement (.bbsDbitRel b d r) := rfl
theorem bbcDbitRel (b : Nat) (d : Byte) (r : Byte) : Statement (.bbcDbitRel b d r) := rfl
theorem bplRel (r : Byte) : Statement (.bplRel r) := rfl
theorem bmiRel (r : Byte) : Statement (.bmiRel r) := rfl
theorem bvcRel (r : Byte) : Statement (.bvcRel r) := rfl
theorem bvsRel (r : Byte) : Statement (.bvsRel r) := rfl
theorem bccRel (r : Byte) : Statement (.bccRel r) := rfl
theorem bcsRel (r : Byte) : Statement (.bcsRel r) := rfl
theorem bneRel (r : Byte) : Statement (.bneRel r) := rfl
theorem beqRel (r : Byte) : Statement (.beqRel r) := rfl
theorem braRel (r : Byte) : Statement (.braRel r) := rfl
theorem cbneDRel (d : Byte) (r : Byte) : Statement (.cbneDRel d r) := rfl
theorem cbneDXRel (d : Byte) (r : Byte) : Statement (.cbneDXRel d r) := rfl
theorem dbnzDRel (d : Byte) (r : Byte) : Statement (.dbnzDRel d r) := rfl
theorem dbnzYRel (r : Byte) : Statement (.dbnzYRel r) := rfl
theorem jmpAbs (a : Addr) : Statement (.jmpAbs a) := rfl
theorem jmpIndAbsX (a : Addr) : Statement (.jmpIndAbsX a) := rfl
theorem callAbs (a : Addr) : Statement (.callAbs a) := rfl
theorem pcallU (u : Byte) : Statement (.pcallU u) := rfl
theorem tcallV (v : Nat) : Statement (.tcallV v) := rfl
theorem brk : Statement (.brk) := rfl
theorem ret : Statement (.ret) := rfl
theorem reti : Statement (.reti) := rfl
theorem pushPsw : Statement (.pushPsw) := rfl
theorem pushA : Statement (.pushA) := rfl
theorem pushX : Statement (.pushX) := rfl
theorem pushY : Statement (.pushY) := rfl
theorem popA : Statement (.popA) := rfl
theorem popX : Statement (.popX) := rfl
theorem popY : Statement (.popY) := rfl
theorem popPsw : Statement (.popPsw) := rfl
theorem nop : Statement (.nop) := rfl
theorem movXA : Statement (.movXA) := rfl
theorem movAX : Statement (.movAX) := rfl
theorem movXSp : Statement (.movXSp) := rfl
theorem movSpX : Statement (.movSpX) := rfl
theorem movAY : Statement (.movAY) := rfl
theorem movYA : Statement (.movYA) := rfl
theorem aslA : Statement (.aslA) := rfl
theorem rolA : Statement (.rolA) := rfl
theorem lsrA : Statement (.lsrA) := rfl
theorem rorA : Statement (.rorA) := rfl
theorem decA : Statement (.decA) := rfl
theorem incA : Statement (.incA) := rfl
theorem decX : Statement (.decX) := rfl
theorem incX : Statement (.incX) := rfl
theorem decY : Statement (.decY) := rfl
theorem incY : Statement (.incY) := rfl
theorem clrp : Statement (.clrp) := rfl
theorem setp : Statement (.setp) := rfl
theorem clrc : Statement (.clrc) := rfl
theorem setc : Statement (.setc) := rfl
theorem ei : Statement (.ei) := rfl
theorem di : Statement (.di) := rfl
theorem clrv : Statement (.clrv) := rfl
theorem notc : Statement (.notc) := rfl
theorem xcnA : Statement (.xcnA) := rfl
theorem daaA : Statement (.daaA) := rfl
theorem dasA : Statement (.dasA) := rfl
theorem mulYa : Statement (.mulYa) := rfl
theorem divYaX : Statement (.divYaX) := rfl
theorem sleep : Statement (.sleep) := rfl
theorem stop : Statement (.stop) := rfl

end Sys2Proof.Laws.EncodedLength
end

