-- ==== Sys2Proof/Laws/Trace.lean ====
section
/-! SUPPORT. Laws/Trace.lean: relations between the state before and after a piece of a rule, closed under sequencing. A
whole-machine claim of the form "every step keeps ..." picks a relation, shows it of the register changes it meets, and gets
the port calls and the sequencing from here. -/

namespace Sys2Proof.Machine

/-- `p` relates every state to the one after it by `R`. -/
def Holds {α : Type} (R : State → State → Prop) (p : Prog α) : Prop := ∀ s, R s (p s).2

variable {α β : Type} {R : State → State → Prop}

/-- Sequencing: what both parts keep, the whole keeps. -/
theorem Holds.bind (trans : ∀ s t u, R s t → R t u → R s u) {p : Prog α} {f : α → Prog β} (hp : Holds R p)
    (hf : ∀ a, Holds R (f a)) : Holds R (p >>= f) :=
  fun s => trans s (p s).2 _ (hp s) (hf (p s).1 (p s).2)

theorem Holds.pure (refl : ∀ s, R s s) (a : α) : Holds R (Pure.pure a : Prog α) := fun s => refl s

theorem Holds.look (refl : ∀ s, R s s) : Holds R Machine.look := fun s => refl s

theorem Holds.change {f : State → State} (h : ∀ s, R s (f s)) : Holds R (Machine.change f) := h

/-- The port calls of a rule, from the fact that one port call is related. -/
theorem Holds.memRead (h : ∀ s r, R s { s with port := s.port.perform r }) (a : Addr) : Holds R (Machine.memRead a) :=
  fun s => h s (.read a)

theorem Holds.memWrite (h : ∀ s r, R s { s with port := s.port.perform r }) (a : Addr) (v : Byte) :
    Holds R (Machine.memWrite a v) := fun s => h s (.write a v)

theorem Holds.idle (h : ∀ s r, R s { s with port := s.port.perform r }) : Holds R Machine.idle := fun s => h s .idle

theorem Holds.sync (h : ∀ s r, R s { s with port := s.port.perform r }) : Holds R Machine.sync := fun s => h s .sync

theorem Holds.ite {c : Prop} [Decidable c] {p q : Prog α} (hp : Holds R p) (hq : Holds R q) :
    Holds R (if c then p else q) := by split <;> assumption

/-- The port is reached by port calls only: some sequence of them. -/
def ByCalls (s t : State) : Prop := ∃ rs : List Request, t.port = s.port.performAll rs

theorem ByCalls.refl (s : State) : ByCalls s s := ⟨[], rfl⟩

theorem ByCalls.trans (s t u : State) : ByCalls s t → ByCalls t u → ByCalls s u := by
  rintro ⟨rs, h⟩ ⟨qs, k⟩
  exact ⟨rs ++ qs, by rw [k, h, performAll_append]⟩

theorem ByCalls.call (s : State) (r : Request) : ByCalls s { s with port := s.port.perform r } := ⟨[r], rfl⟩

/-- A register change makes no port call. -/
theorem ByCalls.of_port_eq {s t : State} (h : t.port = s.port) : ByCalls s t := ⟨[], h⟩

/-- A fetch reads the byte at PC. -/
theorem ByCalls.fetch : Holds ByCalls Machine.fetch := fun s => ⟨[.read s.pc], rfl⟩

/-! ### The shared operations reach the port by calls only -/

theorem ByCalls.fetchOperand : Holds ByCalls Machine.fetchOperand := fun s => ⟨[.read s.pc], rfl⟩

theorem ByCalls.dummyRead : Holds ByCalls Machine.dummyRead := fun s => ⟨[.read s.pc], rfl⟩

theorem ByCalls.load (d : Byte) : Holds ByCalls (Machine.load d) := fun s => ⟨[.read (s.dp d)], rfl⟩

theorem ByCalls.store (d v : Byte) : Holds ByCalls (Machine.store d v) := fun s => ⟨[.write (s.dp d) v], rfl⟩

theorem ByCalls.push (v : Byte) : Holds ByCalls (Machine.push v) := fun s => ⟨[.write s.stackAddr v], rfl⟩

theorem ByCalls.pull : Holds ByCalls Machine.pull :=
  fun s => ⟨[.read (wordOf (s.sp + 1) Config.stackPage)], rfl⟩

theorem ByCalls.pushPc : Holds ByCalls Machine.pushPc :=
  fun s => ⟨[.write s.stackAddr (hiByte s.pc), .write (wordOf (s.sp - 1) Config.stackPage) (loByte s.pc)], rfl⟩

theorem ByCalls.jumpThrough (t : Addr) : Holds ByCalls (Machine.jumpThrough t) :=
  fun _ => ⟨[.read t, .read (t + 1)], rfl⟩

theorem ByCalls.branchIf (taken : Bool) (r : Byte) : Holds ByCalls (Machine.branchIf taken r) := by
  intro s
  rw [branchIf_run]
  cases taken
  · exact ByCalls.refl s
  · exact ⟨[.idle, .idle], rfl⟩

theorem ByCalls.haltLoop : Holds ByCalls Machine.haltLoop := by
  intro s
  rw [haltLoop_run]
  exact ⟨haltRequests s.pc s.port.syncs, rfl⟩

theorem ByCalls.effectiveAddress (m : Mode) : Holds ByCalls (Machine.effectiveAddress m) := by
  intro s
  rw [effectiveAddress_state]
  exact ⟨modeRequests m s, rfl⟩

/-- The one-byte shape, for a change that leaves the port alone. -/
theorem ByCalls.oneByte (n : Nat) {f : State → State} (h : ∀ s, (f s).port = s.port) :
    Holds ByCalls (Machine.oneByte n f) := by
  intro s
  rw [oneByte_run]
  exact ⟨.read s.pc :: List.replicate n .idle, by rw [h]⟩

/-- What is done by port calls keeps the RAM's canonical form. -/
theorem ByCalls.wf {s t : State} (h : ByCalls s t) (hw : s.port.mem.wf = true) : t.port.mem.wf = true := by
  obtain ⟨rs, h⟩ := h
  rw [h]
  exact wf_performAll _ _ hw

end Sys2Proof.Machine
end

