-- ==== Sys2Proof/Tests/Slice0.lean ====
section
/-! SUPPORT. Tests/Slice0.lean: our own tests. Expected values come from the spec: the encodings of 30_encoding.md, the
worked examples under the rules of 41 to 49 (`test_R<n>_...`), the vectors of 95_test_vectors.md (`test_V<n>_...`), the
example tables of 40_alu.md. A `witness_<Name>` shows a state and operands that meet the hypotheses of the statement of that
name, so that they are not contradictory. -/

open Sys2Proof Sys2Proof.Machine

/-! ### Well-formedness: an ill-formed term for each check -/

theorem test_wf_bit_index_of_m_b_refused : (Instr.not1Mb 0x1FFF 8).check = false := by decide
theorem test_wf_address_of_m_b_refused : (Instr.or1CMb 0x2000 7).check = false := by decide
theorem test_wf_address_of_mov1_refused : (Instr.mov1MbC 0xFFFF 0).check = false := by decide
theorem test_wf_bit_index_of_set1_refused : (Instr.set1Dbit 8 0x10).check = false := by decide
theorem test_wf_bit_index_of_bbs_refused : (Instr.bbsDbitRel 8 0x10 0x05).check = false := by decide
theorem test_wf_table_index_refused : (Instr.tcallV 16).check = false := by decide
theorem test_wf_largest_operands_accepted :
    (Instr.not1Mb 0x1FFF 7).check = true ∧ (Instr.clr1Dbit 7 0xFF).check = true ∧ (Instr.bbcDbitRel 7 0xFF 0xFF).check = true ∧
    (Instr.tcallV 15).check = true := by decide

/-! ### Decoding: words written out from the formats of R70 to R77 -/

theorem test_decode_reads_41 :
    decodeOp 0xE8 0x55 0x00 = .movAImm 0x55 ∧ decodeOp 0xF8 0x10 0x00 = .movXD 0x10 ∧
    decodeOp 0xE9 0x34 0x12 = .movXAbs 0x1234 ∧ decodeOp 0xF9 0x10 0x00 = .movXDY 0x10 ∧
    decodeOp 0xF6 0x34 0x12 = .movAAbsY 0x1234 := by decide
theorem test_decode_reads_42 :
    decodeOp 0xE6 0x00 0x00 = .movAIndX ∧ decodeOp 0xE7 0x10 0x00 = .movAIndDX 0x10 ∧
    decodeOp 0xF7 0x10 0x00 = .movAIndDY 0x10 ∧ decodeOp 0xBF 0x00 0x00 = .movAIndXInc ∧
    decodeOp 0x7A 0x10 0x00 = .addwYaD 0x10 := by decide
theorem test_decode_writes_43 :
    decodeOp 0xC4 0x10 0x00 = .movDA 0x10 ∧ decodeOp 0xCC 0x34 0x12 = .movAbsY 0x1234 ∧
    decodeOp 0xD9 0x10 0x00 = .movDYX 0x10 ∧ decodeOp 0xDA 0x10 0x00 = .movwDYa 0x10 ∧
    decodeOp 0xAC 0x34 0x12 = .incAbs 0x1234 ∧ decodeOp 0x3A 0x10 0x00 = .incwD 0x10 := by decide
/-- `dd,ds`: the source offset is byte 1, the destination offset byte 2; `d,#i`: the immediate is byte 1. -/
theorem test_decode_memory_44 :
    decodeOp 0xFA 0x20 0x10 = .movDdDs 0x10 0x20 ∧ decodeOp 0x69 0x20 0x10 = .cmpDdDs 0x10 0x20 ∧
    decodeOp 0x98 0x55 0x10 = .adcDImm 0x10 0x55 ∧ decodeOp 0xB9 0x00 0x00 = .sbcIndXIndY := by decide
/-- `m.b`: bits 15:13 of the operand word are b, bits 12:0 the address; `d.b`: bits 7:5 of the opcode are b. -/
theorem test_decode_bits_45 :
    decodeOp 0xAA 0xFF 0xFF = .mov1CMb 0x1FFF 7 ∧ decodeOp 0xCA 0x00 0x20 = .mov1MbC 0x0000 1 ∧
    decodeOp 0xF2 0x10 0x00 = .clr1Dbit 7 0x10 ∧ decodeOp 0xA3 0x10 0x05 = .bbsDbitRel 5 0x10 0x05 ∧
    decodeOp 0x4E 0x34 0x12 = .tclr1Abs 0x1234 := by decide
theorem test_decode_branches_46 :
    decodeOp 0x2F 0xFE 0x00 = .braRel 0xFE ∧ decodeOp 0x2E 0x10 0x05 = .cbneDRel 0x10 0x05 ∧
    decodeOp 0xFE 0xFE 0x00 = .dbnzYRel 0xFE ∧ decodeOp 0x1F 0x34 0x12 = .jmpIndAbsX 0x1234 := by decide
theorem test_decode_calls_47 :
    decodeOp 0x3F 0x34 0x12 = .callAbs 0x1234 ∧ decodeOp 0xF1 0x00 0x00 = .tcallV 15 ∧ decodeOp 0x0F 0x00 0x00 = .brk ∧
    decodeOp 0x7F 0x00 0x00 = .reti ∧ decodeOp 0x8E 0x00 0x00 = .popPsw := by decide
theorem test_decode_fixed_48 :
    decodeOp 0xBD 0x00 0x00 = .movSpX ∧ decodeOp 0x9F 0x00 0x00 = .xcnA ∧ decodeOp 0xCF 0x00 0x00 = .mulYa ∧
    decodeOp 0xED 0x00 0x00 = .notc ∧ decodeOp 0xDC 0x00 0x00 = .decY := by decide
theorem test_decode_halt_49 : decodeOp 0xEF 0x00 0x00 = .sleep ∧ decodeOp 0xFF 0x00 0x00 = .stop := by decide

/-- The table's numbering: bit 0 is bit 0 of the first byte, the next byte is bits 15:8. -/
theorem test_table_word : decodeTableWord 24 0x12343F = some (.callAbs 0x1234) := by decide
theorem test_table_word_operands_zero : decodeTableWord 8 0xE4 = some (.movAD 0x00) := by decide
theorem test_decode_truncated : decode [0x3F, 0x34] = .error (.truncated 0x3F) := by decide

/-- Placing an instruction at PC: the next step fetches exactly it, from any state. -/
theorem test_with_fetch_word : fetchedInstr (State.reset.withFetchWord 24 0x12343F) = .callAbs 0x1234 := by decide

/-! ### The algorithms: rows of the example tables of 40_alu.md, rules R91 to R109 -/

theorem test_adc_rows :
    adc 0x3C 0x04 (unpackPsw 0x00) = (0x40, unpackPsw 0x08) ∧ adc 0xFF 0xFF (unpackPsw 0x01) = (0xFF, unpackPsw 0x89) ∧
    adc 0x80 0x80 (unpackPsw 0x00) = (0x00, unpackPsw 0x43) := by decide
theorem test_sbc_rows :
    sbc 0x10 0x01 (unpackPsw 0x00) = (0x0E, unpackPsw 0x01) ∧ sbc 0x7F 0xFF (unpackPsw 0x01) = (0x80, unpackPsw 0xC8) := by decide
theorem test_cmp_rows :
    cmp 0x10 0x10 (unpackPsw 0x00) = (0x10, unpackPsw 0x03) ∧ cmp 0x80 0x01 (unpackPsw 0x00) = (0x80, unpackPsw 0x01) := by decide
theorem test_shift_rows :
    asl 0x41 (unpackPsw 0x01) = (0x82, unpackPsw 0x80) ∧ lsr 0x80 (unpackPsw 0x01) = (0x40, unpackPsw 0x00) ∧
    rol 0x80 (unpackPsw 0x01) = (0x01, unpackPsw 0x01) ∧ ror 0x01 (unpackPsw 0x01) = (0x80, unpackPsw 0x81) := by decide
theorem test_word_rows :
    adw 0x0FFF 0x0001 (unpackPsw 0x00) = (0x1000, unpackPsw 0x08) ∧ adw 0x7FFF 0x0001 (unpackPsw 0x00) = (0x8000, unpackPsw 0xC8) ∧
    sbw 0x1000 0x0001 (unpackPsw 0x00) = (0x0FFF, unpackPsw 0x01) := by decide
/-- (YA, X) = (0x1000, 0x0F) on the ordinary path, (0x0500, 0x02) on the quirk path, (0xFFFF, 0x00) with divisor 0. -/
theorem test_div_rows :
    div 0x00 0x10 0x0F (unpackPsw 0x48) = (0x11, 0x01, unpackPsw 0x40) ∧
    div 0x00 0x05 0x02 (unpackPsw 0x00) = (0xFE, 0x04, unpackPsw 0xC8) ∧
    div 0xFF 0xFF 0x00 (unpackPsw 0x03) = (0x00, 0xFF, unpackPsw 0x4B) := by decide

/-! ### Reset, the host's calls -/

theorem test_reset_flags : Flags.reset = unpackPsw Config.pswReset := by decide
theorem test_power_from_halted : (power { State.reset with wait := true, a := 0x5A, pc := 0x1234 }) = State.reset := by decide
theorem test_serialize_reset :
    serialize State.reset = [0, 0, 0, 0, 0, 0xEF, 0, 1, 0, 0, 0, 0, 0, 0, 0, 0] := by decide
theorem test_deserialize_short : deserialize (List.replicate 15 0xFF) State.reset = (false, State.reset) := by decide
/-- A boolean byte other than 0x00 and 0x01 reads as true; both sub-states may be loaded (R436). -/
theorem test_deserialize_any_value :
    (deserialize (List.replicate 16 0x80) State.reset).2.flags = unpackPsw 0xFF ∧
    (deserialize (List.replicate 16 0x80) State.reset).2.wait = true ∧
    (deserialize (List.replicate 16 0x80) State.reset).2.stop = true := by decide

/-! ### Memory -/

theorem test_memory_write_zero_unlists : Memory.writeByte [(0x10, 0x55)] 0x10 0x00 = [] := by decide
theorem test_memory_stays_sorted : Memory.writeByte [(0x10, 0x55), (0x20, 0x66)] 0x18 0x77 = [(0x10, 0x55), (0x18, 0x77), (0x20, 0x66)] := by decide
theorem test_memory_reads_unlisted : Memory.readByte [(0x10, 0x55)] 0x11 = 0x00 := by decide

/-! ### One step each: the worked examples and vectors of the spec -/

/-- A state at `pc` with packed flags `psw`, RAM `mem` and the `Sync()` answers `syncs`; the rest as after reset. -/
def start (pc : Addr) (psw : Byte) (mem : Memory) (syncs : List Bool) : State :=
  { State.reset with pc := pc, flags := unpackPsw psw, port := { Port.fresh with mem := mem, syncs := syncs } }

/-- What the spec's examples print: PC, the registers A, X, Y, S, PSW, and the port calls in order. -/
def seen : Result → Option (Addr × List Byte × List PortCall)
  | .next t => some (t.pc, [t.a, t.x, t.y, t.sp, packPsw t.flags], t.port.log.reverse)
  | _ => none

theorem test_R120_orAImm :
    seen (step { start 0x0200 0x02 [(0x0200, 0x08), (0x0201, 0xF0)] [] with a := 0x0F }) =
      some (0x0202, [0xFF, 0x00, 0x00, 0xEF, 0x80],
        [.read 0x0200 0x08, .read 0x0201 0xF0]) := by decide

theorem test_R131_orAD :
    seen (step { start 0x0200 0x02 [(0x0010, 0xF0), (0x0200, 0x04), (0x0201, 0x10)] [] with a := 0x0F }) =
      some (0x0202, [0xFF, 0x00, 0x00, 0xEF, 0x80],
        [.read 0x0200 0x04, .read 0x0201 0x10, .read 0x0010 0xF0]) := by decide

theorem test_R142_orAAbs :
    seen (step { start 0x0200 0x02 [(0x0200, 0x05), (0x0201, 0x34), (0x0202, 0x12), (0x1234, 0xF0)] [] with a := 0x0F }) =
      some (0x0203, [0xFF, 0x00, 0x00, 0xEF, 0x80],
        [.read 0x0200 0x05, .read 0x0201 0x34, .read 0x0202 0x12, .read 0x1234 0xF0]) := by decide

theorem test_R153_orADX :
    seen (step { start 0x0200 0x02 [(0x0010, 0xF0), (0x0200, 0x14), (0x0201, 0xF0)] [] with a := 0x0F, x := 0x20 }) =
      some (0x0202, [0xFF, 0x20, 0x00, 0xEF, 0x80],
        [.read 0x0200 0x14, .read 0x0201 0xF0, .idle, .read 0x0010 0xF0]) := by decide

theorem test_R162_orAAbsX :
    seen (step { start 0x0200 0x02 [(0x0200, 0x15), (0x0201, 0xFF), (0x0202, 0x12), (0x1300, 0xF0)] [] with a := 0x0F, x := 0x01 }) =
      some (0x0203, [0xFF, 0x01, 0x00, 0xEF, 0x80],
        [.read 0x0200 0x15, .read 0x0201 0xFF, .read 0x0202 0x12, .idle, .read 0x1300 0xF0]) := by decide

theorem test_R176_orAIndX :
    seen (step { start 0x0200 0x02 [(0x0010, 0xF0), (0x0200, 0x06)] [] with a := 0x0F, x := 0x10 }) =
      some (0x0201, [0xFF, 0x10, 0x00, 0xEF, 0x80],
        [.read 0x0200 0x06, .read 0x0201 0x00, .read 0x0010 0xF0]) := by decide

theorem test_R183_orAIndDX :
    seen (step { start 0x0200 0x02 [(0x0010, 0x34), (0x0011, 0x12), (0x0200, 0x07), (0x0201, 0x0E), (0x1234, 0xF0)] [] with a := 0x0F, x := 0x02 }) =
      some (0x0202, [0xFF, 0x02, 0x00, 0xEF, 0x80],
        [.read 0x0200 0x07, .read 0x0201 0x0E, .idle, .read 0x0010 0x34, .read 0x0011 0x12, .read 0x1234 0xF0]) := by decide

theorem test_R190_orAIndDY :
    seen (step { start 0x0200 0x02 [(0x0010, 0xFE), (0x0011, 0x12), (0x0200, 0x17), (0x0201, 0x10), (0x1302, 0xF0)] [] with a := 0x0F, y := 0x04 }) =
      some (0x0202, [0xFF, 0x00, 0x04, 0xEF, 0x80],
        [.read 0x0200 0x17, .read 0x0201 0x10, .read 0x0010 0xFE, .read 0x0011 0x12, .idle, .read 0x1302 0xF0]) := by decide

theorem test_R197_movAIndXInc :
    seen (step { start 0x0200 0x02 [(0x00FF, 0x80), (0x0200, 0xBF)] [] with x := 0xFF }) =
      some (0x0201, [0x80, 0x00, 0x00, 0xEF, 0x80],
        [.read 0x0200 0xBF, .read 0x0201 0x00, .read 0x00FF 0x80, .idle]) := by decide

theorem test_R198_addwYaD :
    seen (step { start 0x0200 0x03 [(0x0010, 0x01), (0x0200, 0x7A), (0x0201, 0x10)] [] with a := 0xFF, y := 0x12 }) =
      some (0x0202, [0x00, 0x00, 0x13, 0xEF, 0x00],
        [.read 0x0200 0x7A, .read 0x0201 0x10, .read 0x0010 0x01, .idle, .read 0x0011 0x00]) := by decide

theorem test_R201_cmpwYaD :
    seen (step { start 0x0200 0x00 [(0x0010, 0x34), (0x0011, 0x12), (0x0200, 0x5A), (0x0201, 0x10)] [] with a := 0x34, y := 0x12 }) =
      some (0x0202, [0x34, 0x00, 0x12, 0xEF, 0x03],
        [.read 0x0200 0x5A, .read 0x0201 0x10, .read 0x0010 0x34, .read 0x0011 0x12]) := by decide

theorem test_R202_movDA :
    seen (step { start 0x0200 0x22 [(0x0110, 0x77), (0x0200, 0xC4), (0x0201, 0x10)] [] with a := 0x5A }) =
      some (0x0202, [0x5A, 0x00, 0x00, 0xEF, 0x22],
        [.read 0x0200 0xC4, .read 0x0201 0x10, .read 0x0110 0x77, .write 0x0110 0x5A]) := by decide

theorem test_R205_movAbsA :
    seen (step { start 0x0200 0x02 [(0x0200, 0xC5), (0x0201, 0x34), (0x0202, 0x12), (0x1234, 0x77)] [] with a := 0x5A }) =
      some (0x0203, [0x5A, 0x00, 0x00, 0xEF, 0x02],
        [.read 0x0200 0xC5, .read 0x0201 0x34, .read 0x0202 0x12, .read 0x1234 0x77, .write 0x1234 0x5A]) := by decide

theorem test_R208_movDXA :
    seen (step { start 0x0200 0x02 [(0x0010, 0x77), (0x0200, 0xD4), (0x0201, 0xF0)] [] with a := 0x5A, x := 0x20 }) =
      some (0x0202, [0x5A, 0x20, 0x00, 0xEF, 0x02],
        [.read 0x0200 0xD4, .read 0x0201 0xF0, .idle, .read 0x0010 0x77, .write 0x0010 0x5A]) := by decide

theorem test_R211_movAbsXA :
    seen (step { start 0x0200 0x02 [(0x0200, 0xD5), (0x0201, 0xFF), (0x0202, 0x12), (0x1300, 0x77)] [] with a := 0x5A, x := 0x01 }) =
      some (0x0203, [0x5A, 0x01, 0x00, 0xEF, 0x02],
        [.read 0x0200 0xD5, .read 0x0201 0xFF, .read 0x0202 0x12, .idle, .read 0x1300 0x77, .write 0x1300 0x5A]) := by decide

theorem test_R213_movIndXA :
    seen (step { start 0x0200 0x02 [(0x0010, 0x77), (0x0200, 0xC6)] [] with a := 0x5A, x := 0x10 }) =
      some (0x0201, [0x5A, 0x10, 0x00, 0xEF, 0x02],
        [.read 0x0200 0xC6, .read 0x0201 0x00, .read 0x0010 0x77, .write 0x0010 0x5A]) := by decide

theorem test_R214_movIndDXA :
    seen (step { start 0x0200 0x02 [(0x0010, 0x34), (0x0011, 0x12), (0x0200, 0xC7), (0x0201, 0x0E), (0x1234, 0x77)] [] with a := 0x5A, x := 0x02 }) =
      some (0x0202, [0x5A, 0x02, 0x00, 0xEF, 0x02],
        [.read 0x0200 0xC7, .read 0x0201 0x0E, .idle, .read 0x0010 0x34, .read 0x0011 0x12, .read 0x1234 0x77, .write 0x1234 0x5A]) := by decide

theorem test_R215_movIndDYA :
    seen (step { start 0x0200 0x02 [(0x0010, 0xFE), (0x0011, 0x12), (0x0200, 0xD7), (0x0201, 0x10), (0x1302, 0x77)] [] with a := 0x5A, y := 0x04 }) =
      some (0x0202, [0x5A, 0x00, 0x04, 0xEF, 0x02],
        [.read 0x0200 0xD7, .read 0x0201 0x10, .read 0x0010 0xFE, .read 0x0011 0x12, .idle, .read 0x1302 0x77, .write 0x1302 0x5A]) := by decide

theorem test_R216_movIndXIncA :
    seen (step { start 0x0200 0x02 [(0x00FF, 0x77), (0x0200, 0xAF)] [] with a := 0x5A, x := 0xFF }) =
      some (0x0201, [0x5A, 0x00, 0x00, 0xEF, 0x02],
        [.read 0x0200 0xAF, .read 0x0201 0x00, .idle, .write 0x00FF 0x5A]) := by decide

theorem test_R217_movwDYa :
    seen (step { start 0x0200 0x02 [(0x0200, 0xDA), (0x0201, 0xFF)] [] with a := 0xEF, y := 0xBE }) =
      some (0x0202, [0xEF, 0x00, 0xBE, 0xEF, 0x02],
        [.read 0x0200 0xDA, .read 0x0201 0xFF, .read 0x00FF 0x00, .write 0x00FF 0xEF, .write 0x0000 0xBE]) := by decide

theorem test_R218_movDImm :
    seen (step (start 0x0200 0x02 [(0x0010, 0x77), (0x0200, 0x8F), (0x0201, 0xA5), (0x0202, 0x10)] [])) =
      some (0x0203, [0x00, 0x00, 0x00, 0xEF, 0x02],
        [.read 0x0200 0x8F, .read 0x0201 0xA5, .read 0x0202 0x10, .read 0x0010 0x77, .write 0x0010 0xA5]) := by decide

theorem test_R219_aslD :
    seen (step (start 0x0200 0x02 [(0x0010, 0x81), (0x0200, 0x0B), (0x0201, 0x10)] [])) =
      some (0x0202, [0x00, 0x00, 0x00, 0xEF, 0x01],
        [.read 0x0200 0x0B, .read 0x0201 0x10, .read 0x0010 0x81, .write 0x0010 0x02]) := by decide

theorem test_R225_aslAbs :
    seen (step (start 0x0200 0x02 [(0x0200, 0x0C), (0x0201, 0x34), (0x0202, 0x12), (0x1234, 0x81)] [])) =
      some (0x0203, [0x00, 0x00, 0x00, 0xEF, 0x01],
        [.read 0x0200 0x0C, .read 0x0201 0x34, .read 0x0202 0x12, .read 0x1234 0x81, .write 0x1234 0x02]) := by decide

theorem test_R231_aslDX :
    seen (step { start 0x0200 0x02 [(0x0010, 0x81), (0x0200, 0x1B), (0x0201, 0xF0)] [] with x := 0x20 }) =
      some (0x0202, [0x00, 0x20, 0x00, 0xEF, 0x01],
        [.read 0x0200 0x1B, .read 0x0201 0xF0, .idle, .read 0x0010 0x81, .write 0x0010 0x02]) := by decide

theorem test_R237_decwD :
    seen (step (start 0x0200 0x02 [(0x0011, 0x01), (0x0200, 0x1A), (0x0201, 0x10)] [])) =
      some (0x0202, [0x00, 0x00, 0x00, 0xEF, 0x00],
        [.read 0x0200 0x1A, .read 0x0201 0x10, .read 0x0010 0x00, .write 0x0010 0xFF, .read 0x0011 0x01, .write 0x0011 0x00]) := by decide

theorem test_R239_orDdDs :
    seen (step (start 0x0200 0x02 [(0x0010, 0x0F), (0x0020, 0xF0), (0x0200, 0x09), (0x0201, 0x20), (0x0202, 0x10)] [])) =
      some (0x0203, [0x00, 0x00, 0x00, 0xEF, 0x80],
        [.read 0x0200 0x09, .read 0x0201 0x20, .read 0x0020 0xF0, .read 0x0202 0x10, .read 0x0010 0x0F, .write 0x0010 0xFF]) := by decide

theorem test_R244_cmpDdDs :
    seen (step (start 0x0200 0x00 [(0x0010, 0x10), (0x0020, 0x20), (0x0200, 0x69), (0x0201, 0x20), (0x0202, 0x10)] [])) =
      some (0x0203, [0x00, 0x00, 0x00, 0xEF, 0x80],
        [.read 0x0200 0x69, .read 0x0201 0x20, .read 0x0020 0x20, .read 0x0202 0x10, .read 0x0010 0x10, .idle]) := by decide

theorem test_R245_movDdDs :
    seen (step (start 0x0200 0x02 [(0x0010, 0x77), (0x0020, 0xA5), (0x0200, 0xFA), (0x0201, 0x20), (0x0202, 0x10)] [])) =
      some (0x0203, [0x00, 0x00, 0x00, 0xEF, 0x02],
        [.read 0x0200 0xFA, .read 0x0201 0x20, .read 0x0020 0xA5, .read 0x0202 0x10, .write 0x0010 0xA5]) := by decide

theorem test_R246_orDImm :
    seen (step (start 0x0200 0x02 [(0x0010, 0x0F), (0x0200, 0x18), (0x0201, 0xF0), (0x0202, 0x10)] [])) =
      some (0x0203, [0x00, 0x00, 0x00, 0xEF, 0x80],
        [.read 0x0200 0x18, .read 0x0201 0xF0, .read 0x0202 0x10, .read 0x0010 0x0F, .write 0x0010 0xFF]) := by decide

theorem test_R251_cmpDImm :
    seen (step (start 0x0200 0x00 [(0x0010, 0x21), (0x0200, 0x78), (0x0201, 0x20), (0x0202, 0x10)] [])) =
      some (0x0203, [0x00, 0x00, 0x00, 0xEF, 0x01],
        [.read 0x0200 0x78, .read 0x0201 0x20, .read 0x0202 0x10, .read 0x0010 0x21, .idle]) := by decide

theorem test_R252_orIndXIndY :
    seen (step { start 0x0200 0x02 [(0x0010, 0x0F), (0x0020, 0xF0), (0x0200, 0x19)] [] with x := 0x10, y := 0x20 }) =
      some (0x0201, [0x00, 0x10, 0x20, 0xEF, 0x80],
        [.read 0x0200 0x19, .read 0x0201 0x00, .read 0x0020 0xF0, .read 0x0010 0x0F, .write 0x0010 0xFF]) := by decide

theorem test_R257_cmpIndXIndY :
    seen (step { start 0x0200 0x00 [(0x0010, 0x05), (0x0020, 0x06), (0x0200, 0x79)] [] with x := 0x10, y := 0x20 }) =
      some (0x0201, [0x00, 0x10, 0x20, 0xEF, 0x80],
        [.read 0x0200 0x79, .read 0x0201 0x00, .read 0x0020 0x06, .read 0x0010 0x05, .idle]) := by decide

theorem test_R258_or1CMb :
    seen (step (start 0x0200 0x02 [(0x0200, 0x0A), (0x0201, 0x34), (0x0202, 0xB2), (0x1234, 0x20)] [])) =
      some (0x0203, [0x00, 0x00, 0x00, 0xEF, 0x03],
        [.read 0x0200 0x0A, .read 0x0201 0x34, .read 0x0202 0xB2, .read 0x1234 0x20, .idle]) := by decide

theorem test_R266_set1Dbit :
    seen (step (start 0x0200 0x02 [(0x0200, 0x62), (0x0201, 0x10)] [])) =
      some (0x0202, [0x00, 0x00, 0x00, 0xEF, 0x02],
        [.read 0x0200 0x62, .read 0x0201 0x10, .read 0x0010 0x00, .write 0x0010 0x08]) := by decide

theorem test_R268_tset1Abs :
    seen (step { start 0x0200 0x02 [(0x0200, 0x0E), (0x0201, 0x34), (0x0202, 0x12), (0x1234, 0x3C)] [] with a := 0x0F }) =
      some (0x0203, [0x0F, 0x00, 0x00, 0xEF, 0x80],
        [.read 0x0200 0x0E, .read 0x0201 0x34, .read 0x0202 0x12, .read 0x1234 0x3C, .read 0x1234 0x3C, .write 0x1234 0x3F]) := by decide

theorem test_R270_bbsDbitRel :
    seen (step (start 0x0200 0x02 [(0x0010, 0x80), (0x0200, 0xE3), (0x0201, 0x10), (0x0202, 0x05)] [])) =
      some (0x0208, [0x00, 0x00, 0x00, 0xEF, 0x02],
        [.read 0x0200 0xE3, .read 0x0201 0x10, .read 0x0010 0x80, .idle, .read 0x0202 0x05, .idle, .idle]) := by decide

theorem test_R273_bplRel :
    seen (step (start 0x0200 0x02 [(0x0200, 0x10), (0x0201, 0xFC)] [])) =
      some (0x01FE, [0x00, 0x00, 0x00, 0xEF, 0x02],
        [.read 0x0200 0x10, .read 0x0201 0xFC, .idle, .idle]) := by decide

theorem test_R282_cbneDRel :
    seen (step { start 0x0200 0x02 [(0x0010, 0x02), (0x0200, 0x2E), (0x0201, 0x10), (0x0202, 0x10)] [] with a := 0x01 }) =
      some (0x0213, [0x01, 0x00, 0x00, 0xEF, 0x02],
        [.read 0x0200 0x2E, .read 0x0201 0x10, .read 0x0010 0x02, .idle, .read 0x0202 0x10, .idle, .idle]) := by decide

theorem test_R283_cbneDXRel :
    seen (step { start 0x0200 0x02 [(0x0010, 0x02), (0x0200, 0xDE), (0x0201, 0xF0), (0x0202, 0x10)] [] with a := 0x02, x := 0x20 }) =
      some (0x0203, [0x02, 0x20, 0x00, 0xEF, 0x02],
        [.read 0x0200 0xDE, .read 0x0201 0xF0, .idle, .read 0x0010 0x02, .idle, .read 0x0202 0x10]) := by decide

theorem test_R284_dbnzDRel :
    seen (step (start 0x0200 0x02 [(0x0010, 0x02), (0x0200, 0x6E), (0x0201, 0x10), (0x0202, 0xFD)] [])) =
      some (0x0200, [0x00, 0x00, 0x00, 0xEF, 0x02],
        [.read 0x0200 0x6E, .read 0x0201 0x10, .read 0x0010 0x02, .write 0x0010 0x01, .read 0x0202 0xFD, .idle, .idle]) := by decide

theorem test_R285_dbnzYRel :
    seen (step { start 0x0200 0x02 [(0x0200, 0xFE), (0x0201, 0xFE)] [] with y := 0x01 }) =
      some (0x0202, [0x00, 0x00, 0x00, 0xEF, 0x02],
        [.read 0x0200 0xFE, .read 0x0201 0xFE, .idle, .read 0x0201 0xFE]) := by decide

theorem test_R286_jmpAbs :
    seen (step (start 0x0200 0x02 [(0x0200, 0x5F), (0x0201, 0x34), (0x0202, 0x12)] [])) =
      some (0x1234, [0x00, 0x00, 0x00, 0xEF, 0x02],
        [.read 0x0200 0x5F, .read 0x0201 0x34, .read 0x0202 0x12]) := by decide

theorem test_R287_jmpIndAbsX :
    seen (step { start 0x0200 0x02 [(0x0200, 0x1F), (0x0201, 0xFF), (0x0202, 0x12), (0x1301, 0x78), (0x1302, 0x56)] [] with x := 0x02 }) =
      some (0x5678, [0x00, 0x02, 0x00, 0xEF, 0x02],
        [.read 0x0200 0x1F, .read 0x0201 0xFF, .read 0x0202 0x12, .idle, .read 0x1301 0x78, .read 0x1302 0x56]) := by decide

theorem test_R288_callAbs :
    seen (step (start 0x0200 0x02 [(0x0200, 0x3F), (0x0201, 0x34), (0x0202, 0x12)] [])) =
      some (0x1234, [0x00, 0x00, 0x00, 0xED, 0x02],
        [.read 0x0200 0x3F, .read 0x0201 0x34, .read 0x0202 0x12, .idle, .write 0x01EF 0x02, .write 0x01EE 0x03, .idle, .idle]) := by decide

theorem test_R289_pcallU :
    seen (step (start 0x0200 0x02 [(0x0200, 0x4F), (0x0201, 0x80)] [])) =
      some (0xFF80, [0x00, 0x00, 0x00, 0xED, 0x02],
        [.read 0x0200 0x4F, .read 0x0201 0x80, .idle, .write 0x01EF 0x02, .write 0x01EE 0x02, .idle]) := by decide

theorem test_R290_tcallV :
    seen (step (start 0x0200 0x02 [(0x0200, 0xF1), (0xFFC0, 0x34), (0xFFC1, 0x12)] [])) =
      some (0x1234, [0x00, 0x00, 0x00, 0xED, 0x02],
        [.read 0x0200 0xF1, .read 0x0201 0x00, .idle, .write 0x01EF 0x02, .write 0x01EE 0x01, .idle, .read 0xFFC0 0x34, .read 0xFFC1 0x12]) := by decide

theorem test_R291_brk :
    seen (step (start 0x0200 0x06 [(0x0200, 0x0F), (0xFFDF, 0x80)] [])) =
      some (0x8000, [0x00, 0x00, 0x00, 0xEC, 0x12],
        [.read 0x0200 0x0F, .read 0x0201 0x00, .write 0x01EF 0x02, .write 0x01EE 0x01, .write 0x01ED 0x06, .idle, .read 0xFFDE 0x00, .read 0xFFDF 0x80]) := by decide

theorem test_R292_ret :
    seen (step { start 0x0200 0x02 [(0x01EE, 0x03), (0x01EF, 0x02), (0x0200, 0x6F)] [] with sp := 0xED }) =
      some (0x0203, [0x00, 0x00, 0x00, 0xEF, 0x02],
        [.read 0x0200 0x6F, .read 0x0201 0x00, .idle, .read 0x01EE 0x03, .read 0x01EF 0x02]) := by decide

theorem test_R293_reti :
    seen (step { start 0x0200 0x02 [(0x01ED, 0x81), (0x01EE, 0x01), (0x01EF, 0x02), (0x0200, 0x7F)] [] with sp := 0xEC }) =
      some (0x0201, [0x00, 0x00, 0x00, 0xEF, 0x81],
        [.read 0x0200 0x7F, .read 0x0201 0x00, .idle, .read 0x01ED 0x81, .read 0x01EE 0x01, .read 0x01EF 0x02]) := by decide

theorem test_R294_pushPsw :
    seen (step (start 0x0200 0xA3 [(0x0200, 0x0D)] [])) =
      some (0x0201, [0x00, 0x00, 0x00, 0xEE, 0xA3],
        [.read 0x0200 0x0D, .read 0x0201 0x00, .write 0x01EF 0xA3, .idle]) := by decide

theorem test_R298_popA :
    seen (step { start 0x0200 0x02 [(0x01EF, 0x80), (0x0200, 0xAE)] [] with sp := 0xEE }) =
      some (0x0201, [0x80, 0x00, 0x00, 0xEF, 0x02],
        [.read 0x0200 0xAE, .read 0x0201 0x00, .idle, .read 0x01EF 0x80]) := by decide

theorem test_R301_popPsw :
    seen (step { start 0x0200 0x02 [(0x01EF, 0xA1), (0x0200, 0x8E)] [] with sp := 0xEE }) =
      some (0x0201, [0x00, 0x00, 0x00, 0xEF, 0xA1],
        [.read 0x0200 0x8E, .read 0x0201 0x00, .idle, .read 0x01EF 0xA1]) := by decide

theorem test_R302_nop :
    seen (step (start 0x0200 0x02 [] [])) =
      some (0x0201, [0x00, 0x00, 0x00, 0xEF, 0x02],
        [.read 0x0200 0x00, .read 0x0201 0x00]) := by decide

theorem test_R303_movXA :
    seen (step { start 0x0200 0x02 [(0x0200, 0x5D)] [] with a := 0x80, x := 0x11 }) =
      some (0x0201, [0x80, 0x80, 0x00, 0xEF, 0x80],
        [.read 0x0200 0x5D, .read 0x0201 0x00]) := by decide

theorem test_R309_aslA :
    seen (step { start 0x0200 0x02 [(0x0200, 0x1C)] [] with a := 0x81 }) =
      some (0x0201, [0x02, 0x00, 0x00, 0xEF, 0x01],
        [.read 0x0200 0x1C, .read 0x0201 0x00]) := by decide

theorem test_R319_clrp :
    seen (step (start 0x0200 0xFF [(0x0200, 0x20)] [])) =
      some (0x0201, [0x00, 0x00, 0x00, 0xEF, 0xDF],
        [.read 0x0200 0x20, .read 0x0201 0x00]) := by decide

theorem test_R325_clrv :
    seen (step (start 0x0200 0xFF [(0x0200, 0xE0)] [])) =
      some (0x0201, [0x00, 0x00, 0x00, 0xEF, 0xB7],
        [.read 0x0200 0xE0, .read 0x0201 0x00]) := by decide

theorem test_R326_notc :
    seen (step (start 0x0200 0x03 [(0x0200, 0xED)] [])) =
      some (0x0201, [0x00, 0x00, 0x00, 0xEF, 0x02],
        [.read 0x0200 0xED, .read 0x0201 0x00, .idle]) := by decide

theorem test_R327_xcnA :
    seen (step { start 0x0200 0x02 [(0x0200, 0x9F)] [] with a := 0x1F }) =
      some (0x0201, [0xF1, 0x00, 0x00, 0xEF, 0x80],
        [.read 0x0200 0x9F, .read 0x0201 0x00, .idle, .idle, .idle]) := by decide

theorem test_R328_daaA :
    seen (step { start 0x0200 0x00 [(0x0200, 0xDF)] [] with a := 0x9B }) =
      some (0x0201, [0x01, 0x00, 0x00, 0xEF, 0x01],
        [.read 0x0200 0xDF, .read 0x0201 0x00, .idle]) := by decide

theorem test_R330_mulYa :
    seen (step { start 0x0200 0x02 [(0x0200, 0xCF)] [] with a := 0x02, y := 0x01 }) =
      some (0x0201, [0x02, 0x00, 0x00, 0xEF, 0x02],
        [.read 0x0200 0xCF, .read 0x0201 0x00, .idle, .idle, .idle, .idle, .idle, .idle, .idle]) := by decide

theorem test_R333_stop :
    seen (step (start 0x0200 0x02 [(0x0200, 0xFF)] [false, true])) =
      some (0x0201, [0x00, 0x00, 0x00, 0xEF, 0x02],
        [.read 0x0200 0xFF, .sync false, .read 0x0201 0x00, .idle, .sync true]) := by decide

theorem test_R121_andAImm :
    seen (step { start 0x0200 0x02 [(0x0200, 0x28), (0x0201, 0x0F)] [] with a := 0x3C }) =
      some (0x0202, [0x0C, 0x00, 0x00, 0xEF, 0x00],
        [.read 0x0200 0x28, .read 0x0201 0x0F]) := by decide

theorem test_R122_eorAImm :
    seen (step { start 0x0200 0x02 [(0x0200, 0x48), (0x0201, 0xFF)] [] with a := 0xFF }) =
      some (0x0202, [0x00, 0x00, 0x00, 0xEF, 0x02],
        [.read 0x0200 0x48, .read 0x0201 0xFF]) := by decide

theorem test_R199_subwYaD :
    seen (step { start 0x0200 0x03 [(0x0010, 0x01), (0x0200, 0x9A), (0x0201, 0x10)] [] with y := 0x10 }) =
      some (0x0202, [0xFF, 0x00, 0x0F, 0xEF, 0x01],
        [.read 0x0200 0x9A, .read 0x0201 0x10, .read 0x0010 0x01, .idle, .read 0x0011 0x00]) := by decide

theorem test_R220_rolD :
    seen (step (start 0x0200 0x03 [(0x0010, 0x80), (0x0200, 0x2B), (0x0201, 0x10)] [])) =
      some (0x0202, [0x00, 0x00, 0x00, 0xEF, 0x01],
        [.read 0x0200 0x2B, .read 0x0201 0x10, .read 0x0010 0x80, .write 0x0010 0x01]) := by decide

theorem test_R221_lsrD :
    seen (step (start 0x0200 0x02 [(0x0010, 0x01), (0x0200, 0x4B), (0x0201, 0x10)] [])) =
      some (0x0202, [0x00, 0x00, 0x00, 0xEF, 0x03],
        [.read 0x0200 0x4B, .read 0x0201 0x10, .read 0x0010 0x01, .write 0x0010 0x00]) := by decide

theorem test_R222_rorD :
    seen (step (start 0x0200 0x03 [(0x0010, 0x02), (0x0200, 0x6B), (0x0201, 0x10)] [])) =
      some (0x0202, [0x00, 0x00, 0x00, 0xEF, 0x80],
        [.read 0x0200 0x6B, .read 0x0201 0x10, .read 0x0010 0x02, .write 0x0010 0x81]) := by decide

theorem test_R223_decD :
    seen (step (start 0x0200 0x02 [(0x0200, 0x8B), (0x0201, 0x10)] [])) =
      some (0x0202, [0x00, 0x00, 0x00, 0xEF, 0x80],
        [.read 0x0200 0x8B, .read 0x0201 0x10, .read 0x0010 0x00, .write 0x0010 0xFF]) := by decide

theorem test_R224_incD :
    seen (step (start 0x0200 0x02 [(0x0010, 0xFF), (0x0200, 0xAB), (0x0201, 0x10)] [])) =
      some (0x0202, [0x00, 0x00, 0x00, 0xEF, 0x02],
        [.read 0x0200 0xAB, .read 0x0201 0x10, .read 0x0010 0xFF, .write 0x0010 0x00]) := by decide

theorem test_R238_incwD :
    seen (step (start 0x0200 0x02 [(0x0010, 0xFF), (0x0200, 0x3A), (0x0201, 0x10)] [])) =
      some (0x0202, [0x00, 0x00, 0x00, 0xEF, 0x00],
        [.read 0x0200 0x3A, .read 0x0201 0x10, .read 0x0010 0xFF, .write 0x0010 0x00, .read 0x0011 0x00, .write 0x0011 0x01]) := by decide

theorem test_R260_and1CMb :
    seen (step (start 0x0200 0x03 [(0x0200, 0x4A), (0x0201, 0x34), (0x0202, 0xB2), (0x1234, 0x20)] [])) =
      some (0x0203, [0x00, 0x00, 0x00, 0xEF, 0x03],
        [.read 0x0200 0x4A, .read 0x0201 0x34, .read 0x0202 0xB2, .read 0x1234 0x20]) := by decide

theorem test_R262_eor1CMb :
    seen (step (start 0x0200 0x03 [(0x0200, 0x8A), (0x0201, 0x34), (0x0202, 0xB2), (0x1234, 0x20)] [])) =
      some (0x0203, [0x00, 0x00, 0x00, 0xEF, 0x02],
        [.read 0x0200 0x8A, .read 0x0201 0x34, .read 0x0202 0xB2, .read 0x1234 0x20, .idle]) := by decide

theorem test_R263_mov1CMb :
    seen (step (start 0x0200 0x02 [(0x0200, 0xAA), (0x0201, 0x34), (0x0202, 0xB2), (0x1234, 0x20)] [])) =
      some (0x0203, [0x00, 0x00, 0x00, 0xEF, 0x03],
        [.read 0x0200 0xAA, .read 0x0201 0x34, .read 0x0202 0xB2, .read 0x1234 0x20]) := by decide

theorem test_R265_not1Mb :
    seen (step (start 0x0200 0x02 [(0x0200, 0xEA), (0x0201, 0x34), (0x0202, 0xB2), (0x1234, 0xFF)] [])) =
      some (0x0203, [0x00, 0x00, 0x00, 0xEF, 0x02],
        [.read 0x0200 0xEA, .read 0x0201 0x34, .read 0x0202 0xB2, .read 0x1234 0xFF, .write 0x1234 0xDF]) := by decide

theorem test_R267_clr1Dbit :
    seen (step (start 0x0200 0x02 [(0x0010, 0xFF), (0x0200, 0x72), (0x0201, 0x10)] [])) =
      some (0x0202, [0x00, 0x00, 0x00, 0xEF, 0x02],
        [.read 0x0200 0x72, .read 0x0201 0x10, .read 0x0010 0xFF, .write 0x0010 0xF7]) := by decide

theorem test_R269_tclr1Abs :
    seen (step { start 0x0200 0x02 [(0x0200, 0x4E), (0x0201, 0x34), (0x0202, 0x12), (0x1234, 0x3C)] [] with a := 0x0F }) =
      some (0x0203, [0x0F, 0x00, 0x00, 0xEF, 0x80],
        [.read 0x0200 0x4E, .read 0x0201 0x34, .read 0x0202 0x12, .read 0x1234 0x3C, .read 0x1234 0x3C, .write 0x1234 0x30]) := by decide

theorem test_R271_bbcDbitRel :
    seen (step (start 0x0200 0x02 [(0x0010, 0x80), (0x0200, 0xF3), (0x0201, 0x10), (0x0202, 0x05)] [])) =
      some (0x0203, [0x00, 0x00, 0x00, 0xEF, 0x02],
        [.read 0x0200 0xF3, .read 0x0201 0x10, .read 0x0010 0x80, .idle, .read 0x0202 0x05]) := by decide

theorem test_R274_bmiRel :
    seen (step (start 0x0200 0x02 [(0x0200, 0x30), (0x0201, 0xFC)] [])) =
      some (0x0202, [0x00, 0x00, 0x00, 0xEF, 0x02],
        [.read 0x0200 0x30, .read 0x0201 0xFC]) := by decide

theorem test_R275_bvcRel :
    seen (step (start 0x0200 0x02 [(0x0200, 0x50), (0x0201, 0xFC)] [])) =
      some (0x01FE, [0x00, 0x00, 0x00, 0xEF, 0x02],
        [.read 0x0200 0x50, .read 0x0201 0xFC, .idle, .idle]) := by decide

theorem test_R276_bvsRel :
    seen (step (start 0x0200 0x02 [(0x0200, 0x70), (0x0201, 0xFC)] [])) =
      some (0x0202, [0x00, 0x00, 0x00, 0xEF, 0x02],
        [.read 0x0200 0x70, .read 0x0201 0xFC]) := by decide

theorem test_R277_bccRel :
    seen (step (start 0x0200 0x02 [(0x0200, 0x90), (0x0201, 0xFC)] [])) =
      some (0x01FE, [0x00, 0x00, 0x00, 0xEF, 0x02],
        [.read 0x0200 0x90, .read 0x0201 0xFC, .idle, .idle]) := by decide

theorem test_R278_bcsRel :
    seen (step (start 0x0200 0x02 [(0x0200, 0xB0), (0x0201, 0xFC)] [])) =
      some (0x0202, [0x00, 0x00, 0x00, 0xEF, 0x02],
        [.read 0x0200 0xB0, .read 0x0201 0xFC]) := by decide

theorem test_R279_bneRel :
    seen (step (start 0x0200 0x02 [(0x0200, 0xD0), (0x0201, 0xFC)] [])) =
      some (0x0202, [0x00, 0x00, 0x00, 0xEF, 0x02],
        [.read 0x0200 0xD0, .read 0x0201 0xFC]) := by decide

theorem test_R280_beqRel :
    seen (step (start 0x0200 0x02 [(0x0200, 0xF0), (0x0201, 0xFC)] [])) =
      some (0x01FE, [0x00, 0x00, 0x00, 0xEF, 0x02],
        [.read 0x0200 0xF0, .read 0x0201 0xFC, .idle, .idle]) := by decide

theorem test_R281_braRel :
    seen (step (start 0x0200 0x02 [(0x0200, 0x2F), (0x0201, 0xFC)] [])) =
      some (0x01FE, [0x00, 0x00, 0x00, 0xEF, 0x02],
        [.read 0x0200 0x2F, .read 0x0201 0xFC, .idle, .idle]) := by decide

theorem test_R320_setp :
    seen (step (start 0x0200 0x02 [(0x0200, 0x40)] [])) =
      some (0x0201, [0x00, 0x00, 0x00, 0xEF, 0x22],
        [.read 0x0200 0x40, .read 0x0201 0x00]) := by decide

theorem test_R321_clrc :
    seen (step (start 0x0200 0xFF [(0x0200, 0x60)] [])) =
      some (0x0201, [0x00, 0x00, 0x00, 0xEF, 0xFE],
        [.read 0x0200 0x60, .read 0x0201 0x00]) := by decide

theorem test_R322_setc :
    seen (step (start 0x0200 0x02 [(0x0200, 0x80)] [])) =
      some (0x0201, [0x00, 0x00, 0x00, 0xEF, 0x03],
        [.read 0x0200 0x80, .read 0x0201 0x00]) := by decide

theorem test_R323_ei :
    seen (step (start 0x0200 0x02 [(0x0200, 0xA0)] [])) =
      some (0x0201, [0x00, 0x00, 0x00, 0xEF, 0x06],
        [.read 0x0200 0xA0, .read 0x0201 0x00, .idle]) := by decide

theorem test_R324_di :
    seen (step (start 0x0200 0xFF [(0x0200, 0xC0)] [])) =
      some (0x0201, [0x00, 0x00, 0x00, 0xEF, 0xFB],
        [.read 0x0200 0xC0, .read 0x0201 0x00, .idle]) := by decide

theorem test_V6_sleep :
    seen (step (start 0x0200 0x02 [(0x0200, 0xEF)] [false, true])) =
      some (0x0201, [0x00, 0x00, 0x00, 0xEF, 0x02],
        [.read 0x0200 0xEF, .sync false, .read 0x0201 0x00, .idle, .sync true]) := by decide

theorem test_V9_tcallV :
    seen (step { start 0x0200 0x02 [(0x0200, 0xF1), (0xFFC0, 0x78), (0xFFC1, 0x56)] [] with sp := 0x00 }) =
      some (0x5678, [0x00, 0x00, 0x00, 0xFE, 0x02],
        [.read 0x0200 0xF1, .read 0x0201 0x00, .idle, .write 0x0100 0x02, .write 0x01FF 0x01, .idle, .read 0xFFC0 0x78, .read 0xFFC1 0x56]) := by decide

theorem test_V13_adcAImm :
    seen (step { start 0x0200 0x00 [(0x0200, 0x88), (0x0201, 0x01)] [] with a := 0xFF }) =
      some (0x0202, [0x00, 0x00, 0x00, 0xEF, 0x0B],
        [.read 0x0200 0x88, .read 0x0201 0x01]) := by decide

theorem test_V14_adcAImm :
    seen (step { start 0x0200 0x00 [(0x0200, 0x88), (0x0201, 0x01)] [] with a := 0x7F }) =
      some (0x0202, [0x80, 0x00, 0x00, 0xEF, 0xC8],
        [.read 0x0200 0x88, .read 0x0201 0x01]) := by decide

theorem test_V18_sbcAImm :
    seen (step (start 0x0200 0x00 [(0x0200, 0xA8), (0x0201, 0x01)] [])) =
      some (0x0202, [0xFE, 0x00, 0x00, 0xEF, 0x80],
        [.read 0x0200 0xA8, .read 0x0201 0x01]) := by decide

theorem test_V19_sbcAImm :
    seen (step { start 0x0200 0x01 [(0x0200, 0xA8), (0x0201, 0x01)] [] with a := 0x80 }) =
      some (0x0202, [0x7F, 0x00, 0x00, 0xEF, 0x41],
        [.read 0x0200 0xA8, .read 0x0201 0x01]) := by decide

theorem test_V22_cmpAImm :
    seen (step { start 0x0200 0x00 [(0x0200, 0x68), (0x0201, 0x7F)] [] with a := 0xFF }) =
      some (0x0202, [0xFF, 0x00, 0x00, 0xEF, 0x81],
        [.read 0x0200 0x68, .read 0x0201 0x7F]) := by decide

theorem test_V144_cbneDXRel :
    seen (step { start 0x0200 0x00 [(0x0010, 0x01), (0x0200, 0xDE), (0x0201, 0xF0), (0x0202, 0xFD)] [] with x := 0x20 }) =
      some (0x0200, [0x00, 0x20, 0x00, 0xEF, 0x00],
        [.read 0x0200 0xDE, .read 0x0201 0xF0, .idle, .read 0x0010 0x01, .idle, .read 0x0202 0xFD, .idle, .idle]) := by decide

theorem test_V145_dbnzDRel :
    seen (step (start 0x0200 0x00 [(0x0040, 0x01), (0x0200, 0x6E), (0x0201, 0x40), (0x0202, 0x05)] [])) =
      some (0x0203, [0x00, 0x00, 0x00, 0xEF, 0x00],
        [.read 0x0200 0x6E, .read 0x0201 0x40, .read 0x0040 0x01, .write 0x0040 0x00, .read 0x0202 0x05]) := by decide

theorem test_V147_dbnzYRel :
    seen (step { start 0x0200 0x00 [(0x0200, 0xFE), (0x0201, 0xFE)] [] with y := 0x01 }) =
      some (0x0202, [0x00, 0x00, 0x00, 0xEF, 0x00],
        [.read 0x0200 0xFE, .read 0x0201 0xFE, .idle, .read 0x0201 0xFE]) := by decide

theorem test_V151_jmpIndAbsX :
    seen (step { start 0x0200 0x00 [(0x0200, 0x1F), (0x0202, 0x30), (0x30FF, 0xCD), (0x3100, 0xAB)] [] with x := 0xFF }) =
      some (0xABCD, [0x00, 0xFF, 0x00, 0xEF, 0x00],
        [.read 0x0200 0x1F, .read 0x0201 0x00, .read 0x0202 0x30, .idle, .read 0x30FF 0xCD, .read 0x3100 0xAB]) := by decide

theorem test_V153_callAbs :
    seen (step { start 0x0200 0x00 [(0x0200, 0x3F), (0x0201, 0x34), (0x0202, 0x12)] [] with sp := 0x00 }) =
      some (0x1234, [0x00, 0x00, 0x00, 0xFE, 0x00],
        [.read 0x0200 0x3F, .read 0x0201 0x34, .read 0x0202 0x12, .idle, .write 0x0100 0x02, .write 0x01FF 0x03, .idle, .idle]) := by decide

theorem test_V156_brk :
    seen (step (start 0x0200 0xA7 [(0x0200, 0x0F), (0xFFDF, 0x05)] [])) =
      some (0x0500, [0x00, 0x00, 0x00, 0xEC, 0xB3],
        [.read 0x0200 0x0F, .read 0x0201 0x00, .write 0x01EF 0x02, .write 0x01EE 0x01, .write 0x01ED 0xA7, .idle, .read 0xFFDE 0x00, .read 0xFFDF 0x05]) := by decide

theorem test_V158_ret :
    seen (step { start 0x0200 0x00 [(0x0100, 0x12), (0x01FF, 0x34), (0x0200, 0x6F)] [] with sp := 0xFE }) =
      some (0x1234, [0x00, 0x00, 0x00, 0x00, 0x00],
        [.read 0x0200 0x6F, .read 0x0201 0x00, .idle, .read 0x01FF 0x34, .read 0x0100 0x12]) := by decide

theorem test_V159_reti :
    seen (step { start 0x0200 0x00 [(0x01ED, 0xA7), (0x01EE, 0x01), (0x01EF, 0x02), (0x0200, 0x7F)] [] with sp := 0xEC }) =
      some (0x0201, [0x00, 0x00, 0x00, 0xEF, 0xA7],
        [.read 0x0200 0x7F, .read 0x0201 0x00, .idle, .read 0x01ED 0xA7, .read 0x01EE 0x01, .read 0x01EF 0x02]) := by decide

theorem test_V163_pushPsw :
    seen (step (start 0x0200 0xFF [(0x0200, 0x0D)] [])) =
      some (0x0201, [0x00, 0x00, 0x00, 0xEE, 0xFF],
        [.read 0x0200 0x0D, .read 0x0201 0x00, .write 0x01EF 0xFF, .idle]) := by decide

theorem test_V168_popPsw :
    seen (step { start 0x0200 0x00 [(0x01EF, 0xFF), (0x0200, 0x8E)] [] with sp := 0xEE }) =
      some (0x0201, [0x00, 0x00, 0x00, 0xEF, 0xFF],
        [.read 0x0200 0x8E, .read 0x0201 0x00, .idle, .read 0x01EF 0xFF]) := by decide

theorem test_V175_movSpX :
    seen (step (start 0x0200 0x80 [(0x0200, 0xBD)] [])) =
      some (0x0201, [0x00, 0x00, 0x00, 0x00, 0x80],
        [.read 0x0200 0xBD, .read 0x0201 0x00]) := by decide

theorem test_V190_notc :
    seen (step (start 0x0200 0xFF [(0x0200, 0xED)] [])) =
      some (0x0201, [0x00, 0x00, 0x00, 0xEF, 0xFE],
        [.read 0x0200 0xED, .read 0x0201 0x00, .idle]) := by decide

theorem test_V194_daaA :
    seen (step { start 0x0200 0x00 [(0x0200, 0xDF)] [] with a := 0x9A }) =
      some (0x0201, [0x00, 0x00, 0x00, 0xEF, 0x03],
        [.read 0x0200 0xDF, .read 0x0201 0x00, .idle]) := by decide

theorem test_V198_dasA :
    seen (step { start 0x0200 0x00 [(0x0200, 0xBE)] [] with a := 0xFF }) =
      some (0x0201, [0x99, 0x00, 0x00, 0xEF, 0x80],
        [.read 0x0200 0xBE, .read 0x0201 0x00, .idle]) := by decide

theorem test_V200_dasA :
    seen (step { start 0x0200 0x09 [(0x0200, 0xBE)] [] with a := 0x0F }) =
      some (0x0201, [0x09, 0x00, 0x00, 0xEF, 0x09],
        [.read 0x0200 0xBE, .read 0x0201 0x00, .idle]) := by decide

theorem test_V203_mulYa :
    seen (step { start 0x0200 0x00 [(0x0200, 0xCF)] [] with a := 0xFF, y := 0xFF }) =
      some (0x0201, [0x01, 0x00, 0xFE, 0xEF, 0x80],
        [.read 0x0200 0xCF, .read 0x0201 0x00, .idle, .idle, .idle, .idle, .idle, .idle, .idle]) := by decide

theorem test_V207_divYaX :
    seen (step { start 0x0200 0x00 [(0x0200, 0x9E)] [] with a := 0x34, y := 0x12 }) =
      some (0x0201, [0xED, 0x00, 0x34, 0xEF, 0xC8],
        [.read 0x0200 0x9E, .read 0x0201 0x00, .idle, .idle, .idle, .idle, .idle, .idle, .idle, .idle, .idle, .idle]) := by decide

theorem test_V208_divYaX :
    seen (step { start 0x0200 0x00 [(0x0200, 0x9E)] [] with a := 0xFF, x := 0xFF, y := 0xFF }) =
      some (0x0201, [0x01, 0xFF, 0x00, 0xEF, 0x48],
        [.read 0x0200 0x9E, .read 0x0201 0x00, .idle, .idle, .idle, .idle, .idle, .idle, .idle, .idle, .idle, .idle]) := by decide

/-- `DBNZ d,r` whose d is its own displacement byte: the write of call 4 is seen by the fetch of call 5 (R284). The opcode is
at 0x0010, so d = 0x12 is the third byte, 0x06 before and 0x05 after: the branch goes to 0x0013 + 5 (log entry 7). -/
theorem test_dbnz_overwrites_its_displacement :
    seen (step (start 0x0010 0x00 [(0x0010, 0x6E), (0x0011, 0x12), (0x0012, 0x06)] [])) =
      some (0x0018, [0x00, 0x00, 0x00, 0xEF, 0x00],
        [.read 0x0010 0x6E, .read 0x0011 0x12, .read 0x0012 0x06, .write 0x0012 0x05, .read 0x0012 0x05, .idle, .idle]) := by
  decide

/-- A scripted answer stands before the RAM: two reads of one address give different values (R41). -/
theorem test_environment_answers :
    seen (step { start 0x0200 0x00 [(0x0200, 0xE4), (0x0201, 0x10), (0x0010, 0x77)] [] with
      port := { Port.fresh with mem := [(0x0010, 0x77), (0x0200, 0xE4), (0x0201, 0x10)], answers := [none, none, some 0x80] } }) =
      some (0x0202, [0x80, 0x00, 0x00, 0xEF, 0x80], [.read 0x0200 0xE4, .read 0x0201 0x10, .read 0x0010 0x80]) := by
  decide

/-! ### Witnesses: the hypotheses of each statement can be met -/

theorem witness_DeserializeAcceptsAnyImage :
    (List.replicate 15 (0x80 : Byte)).length < 16 ∧ 16 ≤ (List.replicate 16 (0x80 : Byte)).length := by decide

theorem witness_DecodeOfEncode :
    (Instr.mov1MbC 0x1FFF 7).WellFormed ∧ (Instr.bbsDbitRel 7 0xFF 0x80).WellFormed ∧ (Instr.tcallV 15).WellFormed := by decide

theorem witness_DecodeRejectsOnlyTruncation :
    ([0x34] : List Byte).length + 1 < cellAt lengthGrid 0 0x3F ∧
    ¬([0x34, 0x12] : List Byte).length + 1 < cellAt lengthGrid 0 0x3F := by decide

theorem witness_StepRunsDecodedInstruction :
    State.reset.wait = false ∧ State.reset.stop = false ∧ decode (fetchedBytes State.reset) = .ok (.nop, [0x00, 0x00]) := by
  decide

theorem witness_FetchedBytesAreMemory :
    State.reset.port.answers = [] ∧ State.reset.port.mem.wf = true := by decide

/-- The branch of the statement where `DBNZ` decrements its own displacement byte. -/
theorem witness_FetchedBytesAreMemory_dbnz :
    let s := start 0x0010 0x00 [(0x0010, 0x6E), (0x0011, 0x12), (0x0012, 0x06)] []
    s.port.answers = [] ∧ s.port.mem.wf = true ∧ s.port.mem.readByte s.pc.toNat = 0x6E ∧
    s.dp (s.port.mem.readByte (s.pc + 1).toNat) = s.pc + 2 := by decide

theorem witness_OperandBytesAreFetched :
    let s := start 0x0200 0x00 [(0x0200, 0x09), (0x0201, 0x20), (0x0202, 0x10)] []
    s.wait = false ∧ s.stop = false ∧ (∃ t, step s = .next t) ∧ 3 ≤ (fetchedInstr s).length :=
  ⟨by decide, by decide, ⟨_, rfl⟩, by decide⟩

theorem witness_EveryStepCompletes :
    State.halted { State.reset with stop := true } ∧ ¬State.halted (start 0x0200 0x00 [] []) :=
  ⟨Or.inr rfl, by unfold State.halted; decide⟩

theorem witness_PortIsTheOnlyPath : ∃ t, step State.reset = .next t := ⟨_, rfl⟩

/-- A halted step, a step of `SLEEP`, and a taken branch, which is a cell of the form `a/b`. -/
theorem witness_CallCountsFollowTheGrid :
    let h := { State.reset with wait := true, port := { Port.fresh with syncs := [false, true] } }
    let z := start 0x0200 0x00 [(0x0200, 0xEF)] [false]
    let b := start 0x0200 0x00 [(0x0200, 0xD0), (0x0201, 0x05)] []
    (h.halted ∧ ∃ t, step h = .next t) ∧ (∃ t, step z = .next t ∧ t.port.counted = 3 ∧ t.port.syncFalse = 1) ∧
    (∃ t, step b = .next t ∧ t.port.counted = 4) :=
  ⟨⟨Or.inl rfl, _, rfl⟩, ⟨_, rfl, by decide, by decide⟩, ⟨_, rfl, by decide⟩⟩

theorem witness_HaltedStepRunsTheLoop : State.halted { State.reset with wait := true } := Or.inl rfl

theorem witness_HaltLoopMakesNPairs :
    (start 0x0200 0x00 [] [true]).port.syncs = List.replicate 0 false ++ true :: [] ∧
    (start 0x0200 0x00 [] [false, false, true, false]).port.syncs = List.replicate 2 false ++ true :: [false] := by decide

theorem witness_HaltIsSticky :
    (∃ t, step { State.reset with wait := true } = .next t ∧ t.wait = true) ∧
    (∃ t, exec .stop State.reset = .next t ∧ t.stop = true) ∧ 16 ≤ (List.replicate 16 (0 : Byte)).length :=
  ⟨⟨_, rfl, by decide⟩, ⟨_, rfl, by decide⟩, by decide⟩

theorem witness_HaltedRunsChangeOnlyThePort :
    State.halted { State.reset with stop := true } ∧
    ∃ t, Sys2Proof.core.run 2 ({ State.reset with stop := true } : State) = .next t := ⟨Or.inr rfl, _, rfl⟩

theorem witness_EveryStepKeepsTheInvariant : State.Inv (start 0x0200 0x00 [(0x0200, 0xC4), (0x0201, 0x10)] []) ∧
    ∃ t, step (start 0x0200 0x00 [(0x0200, 0xC4), (0x0201, 0x10)] []) = .next t :=
  ⟨⟨by decide, by decide⟩, _, rfl⟩

theorem witness_ResetMeetsTheInvariant : (start 0x0200 0x00 [(0x0010, 0x55)] []).port.mem.wf = true := by decide

/-- Each clause of `DIV` at the edge of its range: Y = 2*X - 1, Y = 2*X, X = 0, Y = X - 1. -/
theorem witness_DivideComputes :
    (0x7F : Byte).toNat < 2 * (0x40 : Byte).toNat ∧ 2 * (0x40 : Byte).toNat ≤ (0x80 : Byte).toNat ∧
    (0x00 : Byte) = 0 ∧ (0x3F : Byte).toNat < (0x40 : Byte).toNat := by decide

theorem witness_DecimalAdjustIsDecimal :
    (9 < 10 ∧ 9 < 10 ∧ 9 < 10 ∧ 9 < 10) ∧ (daa (adc 0x99 0x99 (unpackPsw 0x01)).1 (adc 0x99 0x99 (unpackPsw 0x01)).2).1 = 0x99 := by
  decide

theorem witness_ReadExecutorsResult :
    immediateInstr .adc .a = some .adcAImm ∧ readInstr .cmp .y (.absolute 0xFFFF) = some (.cmpYAbs 0xFFFF) := by
  exact ⟨rfl, rfl⟩

theorem witness_StoreExecutorsResult : storeInstr .x (.directIndexed 0xFF .y) = some (.movDYX 0xFF) := rfl

theorem witness_ModifyExecutorsResult :
    modifyInstr .ror (.directIndexed 0xFF .x) = some (.rorDX 0xFF) ∧ impliedInstr .dec .y = some .decY := ⟨rfl, rfl⟩

theorem witness_DirectDirectResult : directDirectInstr .sbc = some .sbcDdDs := rfl

theorem witness_DirectImmediateResult : directImmediateInstr .eor = some .eorDImm := rfl

theorem witness_IndirectPairResult : indirectPairInstr .adc = some .adcIndXIndY := rfl

theorem witness_WordModifyResult :
    (Instr.incwD 0xFF = .incwD 0xFF ∧ 1 = 1) ∧ (Instr.decwD 0xFF = .decwD 0xFF ∧ 65535 = 65535) :=
  ⟨⟨rfl, rfl⟩, rfl, rfl⟩

theorem witness_CarryBitResult : (0x1FFF : Addr).toNat < 0x2000 ∧ 7 < 8 := by decide

theorem witness_BitSetAndTestResult : 7 < 8 ∧ 0 < 8 := by decide

theorem witness_TestAndBranchResult : 7 < 8 := by decide

theorem witness_JumpAndCallResult : 15 < 16 := by decide

theorem witness_ReturnUndoesBreak :
    let s := start 0x0200 0xA7 [(0xFFDF, 0x05)] []
    s.port.mem.wf = true ∧ s.port.answers = [] ∧
    ∃ t u, exec .brk s = .next t ∧ exec .reti { t with pc := 0x0501 } = .next u := ⟨by decide, by decide, _, _, rfl, rfl⟩

/-- S = 0x00: the pushes wrap inside the stack page. -/
theorem witness_ReturnUndoesCall :
    let s := { start 0x0201 0x00 [(0xFFC1, 0x05)] [] with sp := 0x00 }
    s.port.mem.wf = true ∧ s.port.answers = [] ∧
    (∃ t u, exec (.callAbs 0x1234) s = .next t ∧ exec .ret { t with pc := 0x1240 } = .next u) ∧
    (∃ t u, exec (.pcallU 0xFF) s = .next t ∧ exec .ret { t with pc := 0xFFFF } = .next u) ∧
    (∃ t u, exec (.tcallV 15) s = .next t ∧ exec .ret { t with pc := 0x0500 } = .next u) :=
  ⟨by decide, by decide, ⟨_, _, rfl, rfl⟩, ⟨_, _, rfl, rfl⟩, ⟨_, _, rfl, rfl⟩⟩

theorem witness_FlagsNotListedKeepTheirValue :
    (∃ t, exec (.adcAImm 0x01) State.reset = .next t) ∧ FlagName.p ∉ flagsWritten (.adcAImm 0x01) := ⟨⟨_, rfl⟩, by decide⟩

theorem witness_RegistersNotWrittenKeepTheirValue :
    (∃ t, exec .popX State.reset = .next t) ∧ RegName.a ∉ regsWritten .popX ∧ Instr.popX ≠ .sleep ∧ Instr.popX ≠ .stop :=
  ⟨⟨_, rfl⟩, by decide, by decide, by decide⟩

/-- An address outside the two that `CALL` stores to, and one for a form that stores nothing. -/
theorem witness_MemoryNotStoredToKeepsItsValue :
    (∃ t, exec (.callAbs 0x1234) State.reset = .next t) ∧ (0x01ED : Addr) ∉ storesTo (.callAbs 0x1234) State.reset ∧
    (∃ t, exec (.cmpDImm 0x10 0x55) State.reset = .next t) ∧ (0x0010 : Addr) ∉ storesTo (.cmpDImm 0x10 0x55) State.reset :=
  ⟨⟨_, rfl⟩, by decide, ⟨_, rfl⟩, by decide⟩

/-- The read-after-write clause, at the top of the address space, for the address written and for another. -/
theorem witness_MemoryNotStoredToKeepsItsValue_read_back :
    let s := start 0x0200 0x00 [(0x0010, 0x55)] []
    s.port.mem.wf = true ∧ s.port.answers = [] ∧ (memRead 0xFFFF (memWrite 0xFFFF 0x66 s).2).1 = 0x66 ∧
    (memRead 0x0010 (memWrite 0xFFFF 0x66 s).2).1 = 0x55 := by decide

theorem witness_PcMovesPastTheInstruction :
    transfersControl (.movDImm 0x10 0x55) = false ∧ ∃ t, exec (.movDImm 0x10 0x55) State.reset = .next t := ⟨rfl, _, rfl⟩

theorem witness_InterruptFlagGatesNothing :
    Instr.reti ≠ .pushPsw ∧ Instr.reti ≠ .brk ∧ ∃ t, exec .reti State.reset = .next t := ⟨by decide, by decide, _, rfl⟩
end

section
/-! PROOFS. The state (10_state.md): what an instruction and a step can change. A `Scope` lists what a rule may write beside
PC and the port; `Scope.Frame` says that nothing else changed and that the port was reached by calls only. The relation is
closed under sequencing (Laws/Trace.lean), so a rule stays in its scope when each of its operations does. -/

namespace Sys2Proof.Machine

/-! ### Running a rule -/

/-- What a program guarantees of its end state holds of the outcome of the whole rule. -/
theorem Holds.of_finish {R : State → State → Prop} {p : Prog Unit} {s t : State} (h : finish p s = .next t)
    (hp : Holds R p) : R s t := by
  cases h; exact hp s

/-! ### The scope of a rule and its frame -/

/-- What a rule may write, beside PC and the port. -/
structure Scope where
  flags : List FlagName := []
  regs : List RegName := []
  wait : Bool := false
  stop : Bool := false

/-- Only what the scope lists has changed, and the port was reached by port calls only. -/
structure Scope.Frame (c : Scope) (s t : State) : Prop where
  calls : ByCalls s t
  flags : ∀ f, f ∉ c.flags → t.flags.get f = s.flags.get f
  regs : ∀ r, r ∉ c.regs → t.get r = s.get r
  wait : c.wait = false → t.wait = s.wait
  stop : c.stop = false → t.stop = s.stop

/-- The scope that the tables of the spec give an instruction (R25, R332, R333). -/
def scopeOf (i : Instr) : Scope :=
  { flags := flagsWritten i, regs := regsWritten i, wait := decide (i = .sleep), stop := decide (i = .stop) }

/-- The name of a register that an executor names. -/
def Reg.name : Reg → RegName
  | .a => .a
  | .x => .x
  | .y => .y

theorem get_setReg_other (s : State) (r : Reg) (q : RegName) (v : Byte) (h : q ≠ r.name) :
    (s.setReg r v).get q = s.get q := by
  cases r <;> cases q <;> simp_all [Reg.name, State.get]

/-! ### The flags that an algorithm writes (R91 to R109), as the instruction rules list them -/

/-- The flags a two-operand byte algorithm writes. -/
def Alu2.flags : Alu2 → List FlagName
  | .adc | .sbc => [.c, .z, .h, .v, .n]
  | .cmp => [.c, .z, .n]
  | .and | .or | .eor | .ld => [.z, .n]

/-- The flags a one-operand byte algorithm writes. -/
def Alu1.flags : Alu1 → List FlagName
  | .asl | .rol | .lsr | .ror => [.c, .z, .n]
  | .dec | .inc => [.z, .n]

/-- The flags a word algorithm writes. -/
def AluW.flags : AluW → List FlagName
  | .adw | .sbw => [.c, .z, .h, .v, .n]
  | .cpw => [.c, .z, .n]
  | .ldw => [.z, .n]

theorem setZN_get (r : Byte) (f : Flags) (k : FlagName) (h : k ∉ [.z, .n]) : (setZN r f).get k = f.get k := by
  cases k <;> simp_all [setZN, Flags.get]

theorem setZN16_get (r : Addr) (f : Flags) (k : FlagName) (h : k ∉ [.z, .n]) : (setZN16 r f).get k = f.get k := by
  cases k <;> simp_all [setZN16, Flags.get]

theorem adc_get (x y : Byte) (f : Flags) (k : FlagName) (h : k ∉ [.c, .z, .h, .v, .n]) :
    (adc x y f).2.get k = f.get k := by
  cases k <;> simp_all [adc, Flags.get]

theorem alu2_get (g : Alu2) (x y : Byte) (f : Flags) (k : FlagName) (h : k ∉ g.flags) :
    (alu2 g x y f).2.get k = f.get k := by
  cases g with
  | adc => exact adc_get x y f k h
  | sbc => exact adc_get x (y ^^^ 0xFF) f k h
  | cmp => cases k <;> simp_all [alu2, cmp, Alu2.flags, Flags.get]
  | and | or | eor | ld => exact setZN_get _ f k h

theorem alu1_get (g : Alu1) (x : Byte) (f : Flags) (k : FlagName) (h : k ∉ g.flags) :
    (alu1 g x f).2.get k = f.get k := by
  cases g with
  | asl | rol | lsr | ror => cases k <;> simp_all [alu1, asl, rol, lsr, ror, setZN, Alu1.flags, Flags.get]
  | dec | inc => exact setZN_get _ f k h

theorem aluW_get (g : AluW) (x y : Addr) (f : Flags) (k : FlagName) (h : k ∉ g.flags) :
    (aluW g x y f).2.get k = f.get k := by
  cases g with
  | adw | sbw | cpw => cases k <;> simp_all [aluW, adw, sbw, sbc, adc, cpw, AluW.flags, Flags.get]
  | ldw => exact setZN16_get y f k h

theorem daa_get (a : Byte) (f : Flags) (k : FlagName) (h : k ∉ [.c, .z, .n]) : (daa a f).2.get k = f.get k := by
  cases k <;> simp_all [daa, setZN, Flags.get]

theorem das_get (a : Byte) (f : Flags) (k : FlagName) (h : k ∉ [.c, .z, .n]) : (das a f).2.get k = f.get k := by
  cases k <;> simp_all [das, setZN, Flags.get]

theorem div_get (a y x : Byte) (f : Flags) (k : FlagName) (h : k ∉ [.h, .v, .z, .n]) :
    (div a y x f).2.2.get k = f.get k := by
  unfold div
  split <;> (rw [setZN_get _ _ k (by simp_all)]; cases k <;> simp_all [Flags.get])

namespace Scope.Frame

variable {c : Scope} {s t u : State} {α β : Type}

theorem refl (s : State) : c.Frame s s := ⟨ByCalls.refl s, fun _ _ => rfl, fun _ _ => rfl, fun _ => rfl, fun _ => rfl⟩

theorem trans (s t u : State) (h : c.Frame s t) (k : c.Frame t u) : c.Frame s u where
  calls := ByCalls.trans s t u h.calls k.calls
  flags f hf := (k.flags f hf).trans (h.flags f hf)
  regs r hr := (k.regs r hr).trans (h.regs r hr)
  wait hw := (k.wait hw).trans (h.wait hw)
  stop hs := (k.stop hs).trans (h.stop hs)

/-- Port calls and moves of PC are in every scope. -/
theorem of_calls (h : ByCalls s t) (e : t = { s with pc := t.pc, port := t.port }) : c.Frame s t where
  calls := h
  flags f _ := by rw [e]
  regs r _ := by rw [e]; cases r <;> rfl
  wait _ := by rw [e]
  stop _ := by rw [e]

theorem setFlags {g : Flags} (h : ∀ f, f ∉ c.flags → g.get f = s.flags.get f) : c.Frame s { s with flags := g } where
  calls := ByCalls.of_port_eq rfl
  flags := h
  regs r _ := by cases r <;> rfl
  wait _ := rfl
  stop _ := rfl

theorem setReg {r : Reg} {v : Byte} (h : r.name ∈ c.regs) : c.Frame s (s.setReg r v) where
  calls := ByCalls.of_port_eq (by simp)
  flags f _ := by simp
  regs q hq := get_setReg_other s r q v fun e => hq (e ▸ h)
  wait _ := by simp
  stop _ := by simp

theorem setA {v : Byte} (h : .a ∈ c.regs) : c.Frame s { s with a := v } := setReg (r := .a) (v := v) h

theorem setX {v : Byte} (h : .x ∈ c.regs) : c.Frame s { s with x := v } := setReg (r := .x) (v := v) h

theorem setY {v : Byte} (h : .y ∈ c.regs) : c.Frame s { s with y := v } := setReg (r := .y) (v := v) h

theorem setSp {v : Byte} (h : .s ∈ c.regs) : c.Frame s { s with sp := v } where
  calls := ByCalls.of_port_eq rfl
  flags _ _ := rfl
  regs r hr := by
    cases r with
    | s => exact absurd h hr
    | a | x | y => rfl
  wait _ := rfl
  stop _ := rfl

/-! ### Programs in a scope: sequencing, port calls, fetches -/

theorem bind {p : Prog α} {f : α → Prog β} (hp : Holds c.Frame p) (hf : ∀ a, Holds c.Frame (f a)) :
    Holds c.Frame (p >>= f) := Holds.bind trans hp hf

theorem pure (a : α) : Holds c.Frame (Pure.pure a : Prog α) := Holds.pure refl a

theorem look : Holds c.Frame Machine.look := Holds.look refl

theorem memRead (a : Addr) : Holds c.Frame (Machine.memRead a) := fun _ => of_calls ⟨[.read a], rfl⟩ rfl

theorem memWrite (a : Addr) (v : Byte) : Holds c.Frame (Machine.memWrite a v) :=
  fun _ => of_calls ⟨[.write a v], rfl⟩ rfl

theorem idle : Holds c.Frame Machine.idle := fun _ => of_calls ⟨[.idle], rfl⟩ rfl

theorem idles (n : Nat) : Holds c.Frame (Machine.idles n) :=
  fun _ => of_calls ⟨List.replicate n .idle, rfl⟩ rfl

theorem fetch : Holds c.Frame Machine.fetch := fun s => of_calls (ByCalls.fetch s) rfl

theorem fetchOperand : Holds c.Frame Machine.fetchOperand := fun s => of_calls (ByCalls.fetchOperand s) rfl

theorem dummyRead : Holds c.Frame Machine.dummyRead := fun s => of_calls (ByCalls.dummyRead s) rfl

theorem load (d : Byte) : Holds c.Frame (Machine.load d) := fun s => of_calls (ByCalls.load d s) rfl

theorem store (d v : Byte) : Holds c.Frame (Machine.store d v) := fun s => of_calls (ByCalls.store d v s) rfl

theorem jumpThrough (a : Addr) : Holds c.Frame (Machine.jumpThrough a) :=
  fun s => of_calls (ByCalls.jumpThrough a s) rfl

theorem branchIf (taken : Bool) (r : Byte) : Holds c.Frame (Machine.branchIf taken r) :=
  fun s => of_calls (ByCalls.branchIf taken r s) (by rw [branchIf_run]; cases taken <;> rfl)

theorem effectiveAddress (m : Mode) : Holds c.Frame (Machine.effectiveAddress m) :=
  fun s => of_calls (ByCalls.effectiveAddress m s) (by rw [effectiveAddress_state])

theorem haltLoop : Holds c.Frame Machine.haltLoop :=
  fun s => of_calls (ByCalls.haltLoop s) (by rw [haltLoop_run])

/-! ### Register changes in a scope -/

theorem change {g : State → State} (h : ∀ s, c.Frame s (g s)) : Holds c.Frame (Machine.change g) := h

/-- A result put into a register, with the flags of its algorithm. -/
theorem setFlagsReg {g : Flags} {r : Reg} {v : Byte} (hg : ∀ f, f ∉ c.flags → g.get f = s.flags.get f)
    (hr : r.name ∈ c.regs) : c.Frame s (({ s with flags := g }).setReg r v) :=
  trans _ _ _ (setFlags hg) (setReg hr)

/-- A result put into `YA`, with the flags of its algorithm. -/
theorem setFlagsYa {g : Flags} {lo hi : Byte} (hg : ∀ f, f ∉ c.flags → g.get f = s.flags.get f)
    (ha : .a ∈ c.regs) (hy : .y ∈ c.regs) : c.Frame s { s with a := lo, y := hi, flags := g } :=
  trans _ _ _ (setFlags hg) (trans _ _ _ (setA ha) (setY hy))

theorem push (h : .s ∈ c.regs) (v : Byte) : Holds c.Frame (Machine.push v) :=
  fun s => trans s _ _ (memWrite s.stackAddr v s) (setSp h)

theorem pull (h : .s ∈ c.regs) : Holds c.Frame Machine.pull :=
  fun s => trans s _ _ (setSp h) (memRead (wordOf (s.sp + 1) Config.stackPage) _)

end Scope.Frame

/-! ### The executors -/

/-- What `rd <- f(rd, v)` writes: a compare writes its flags only (R93). -/
def Alu2.scope (f : Alu2) (r : Reg) : Scope where
  flags := f.flags
  regs := match f with
    | .cmp => []
    | .adc | .sbc | .and | .or | .eor | .ld => [r.name]

/-- A compare changes the flags only: the register is written with its old value (R93). -/
theorem applyAlu2_cmp (s : State) (r : Reg) (v : Byte) :
    s.applyAlu2 .cmp r v = { s with flags := (alu2 .cmp (s.reg r) v s.flags).2 } := by cases r <;> rfl

namespace Scope.Frame

theorem applyAlu2 (f : Alu2) (r : Reg) (v : Byte) (s : State) : (f.scope r).Frame s (s.applyAlu2 f r v) := by
  have hg : ∀ k, k ∉ (f.scope r).flags → (alu2 f (s.reg r) v s.flags).2.get k = s.flags.get k :=
    alu2_get f (s.reg r) v s.flags
  cases f with
  | cmp => rw [applyAlu2_cmp]; exact setFlags hg
  | adc | sbc | and | or | eor | ld => exact setFlagsReg hg (List.mem_singleton.2 rfl)

theorem immediateRead (f : Alu2) (r : Reg) (i : Byte) : Holds (f.scope r).Frame (Machine.immediateRead f r i) :=
  bind fetchOperand fun _ => change (applyAlu2 f r i)

theorem readInto (f : Alu2) (r : Reg) (m : Mode) : Holds (f.scope r).Frame (Machine.readInto f r m) :=
  bind (effectiveAddress m) fun a => bind (memRead a) fun v => change (applyAlu2 f r v)

theorem storeFrom (r : Reg) (m : Mode) : Holds (Scope.Frame {}) (Machine.storeFrom r m) :=
  bind (effectiveAddress m) fun a => bind (memRead a) fun _ => bind look fun s => memWrite a (s.reg r)

theorem modifyAt (f : Alu1) (m : Mode) : Holds (Scope.Frame { flags := f.flags }) (Machine.modifyAt f m) :=
  bind (effectiveAddress m) fun a => bind (memRead a) fun v s =>
    trans s _ _ (memWrite a _ s) (setFlags (alu1_get f v s.flags))

theorem readWord (f : AluW) (d : Byte) :
    Holds (Scope.Frame { flags := f.flags, regs := [.a, .y] }) (Machine.readWord f d) :=
  bind fetchOperand fun _ => bind (load d) fun lo => bind idle fun _ => bind (load (d + 1)) fun hi => change fun s =>
    setFlagsYa (aluW_get f s.ya (wordOf lo hi) s.flags) (by simp) (by simp)

theorem modifyWord (delta : Addr) (d : Byte) : Holds (Scope.Frame { flags := [.z, .n] }) (Machine.modifyWord delta d) :=
  bind fetchOperand fun _ => bind (load d) fun _ => bind (store d _) fun _ => bind (load (d + 1)) fun _ =>
    bind (store (d + 1) _) fun _ => change fun _ => setFlags (setZN16_get _ _)

theorem loadSource {c : Scope} (ds : Byte) : Holds c.Frame (Machine.loadSource ds) :=
  bind fetchOperand fun _ => bind (load ds) fun v => bind fetchOperand fun _ => pure v

theorem modifyDirectDirect (f : Alu2) (dd ds : Byte) :
    Holds (Scope.Frame { flags := f.flags }) (Machine.modifyDirectDirect f dd ds) :=
  bind (loadSource ds) fun rhs => bind (load dd) fun lhs s =>
    trans s _ _ (store dd _ s) (setFlags (alu2_get f lhs rhs s.flags))

theorem modifyDirectImmediate (f : Alu2) (d i : Byte) :
    Holds (Scope.Frame { flags := f.flags }) (Machine.modifyDirectImmediate f d i) :=
  bind fetchOperand fun _ => bind fetchOperand fun _ => bind (load d) fun v s =>
    trans s _ _ (store d _ s) (setFlags (alu2_get f v i s.flags))

theorem loadIndirectPair {c : Scope} : Holds c.Frame Machine.loadIndirectPair :=
  bind dummyRead fun _ => bind look fun s => bind (load s.y) fun _ => bind (load s.x) fun _ => pure _

theorem modifyIndirect (f : Alu2) : Holds (Scope.Frame { flags := f.flags }) (Machine.modifyIndirect f) :=
  bind loadIndirectPair fun p s =>
    trans s _ _ (store s.x _ s) (setFlags (alu2_get f p.2 p.1 s.flags))

theorem compareOnly (lhs rhs : Byte) :
    Holds (Scope.Frame { flags := Alu2.cmp.flags }) (Machine.compareOnly lhs rhs) :=
  bind (change fun s => setFlags (alu2_get .cmp lhs rhs s.flags)) fun _ => idle

theorem loadBitByte {c : Scope} (a : Addr) : Holds c.Frame (Machine.loadBitByte a) :=
  bind fetchOperand fun _ => bind fetchOperand fun _ => memRead a

theorem changeCarry (f : Bool → Bool) : Holds (Scope.Frame { flags := [.c] }) (Machine.changeCarry f) :=
  change fun _ => setFlags fun k hk => by cases k <;> simp_all [Flags.get]

theorem writeDirectBit (b : Nat) (v : Bool) (d : Byte) : Holds (Scope.Frame {}) (Machine.writeDirectBit b v d) :=
  bind fetchOperand fun _ => bind (load d) fun _ => store d _

theorem testAndModify (f : Byte → Byte → Byte) (a : Addr) :
    Holds (Scope.Frame { flags := [.z, .n] }) (Machine.testAndModify f a) :=
  bind fetchOperand fun _ => bind fetchOperand fun _ => bind (memRead a) fun _ =>
    bind (change fun _ => setFlags (setZN_get _ _)) fun _ => bind (memRead a) fun _ => bind look fun _ => memWrite a _

theorem branchOnBit (b : Nat) (v : Bool) (d r : Byte) : Holds (Scope.Frame {}) (Machine.branchOnBit b v d r) :=
  bind fetchOperand fun _ => bind (load d) fun _ => bind idle fun _ => bind fetchOperand fun _ => branchIf _ r

theorem branchOn (cond : Flags → Bool) (r : Byte) : Holds (Scope.Frame {}) (Machine.branchOn cond r) :=
  bind fetchOperand fun _ => bind look fun s => branchIf (cond s.flags) r

theorem oneByte {c : Scope} (n : Nat) {g : State → State} (h : ∀ s, c.Frame s (g s)) :
    Holds c.Frame (Machine.oneByte n g) :=
  bind dummyRead fun _ => bind (idles n) fun _ => change h

theorem pushOf (v : State → Byte) : Holds (Scope.Frame { regs := [.s] }) (Machine.pushOf v) :=
  bind dummyRead fun _ => bind look fun s => bind (push (by simp) (v s)) fun _ => idle

theorem popInto (r : Reg) : Holds (Scope.Frame { regs := [r.name, .s] }) (Machine.popInto r) :=
  bind dummyRead fun _ => bind idle fun _ => bind (pull (by simp)) fun _ => change fun _ => setReg (by simp)

theorem pushPc {c : Scope} (h : .s ∈ c.regs) : Holds c.Frame Machine.pushPc :=
  bind look fun s => bind (push h (hiByte s.pc)) fun _ => push h (loByte s.pc)

theorem setWait {c : Scope} (h : c.wait = true) : Holds c.Frame (Machine.change fun s => { s with wait := true }) := fun _ =>
  { calls := ByCalls.of_port_eq rfl
    flags := fun _ _ => rfl
    regs := fun r _ => by cases r <;> rfl
    wait := fun hw => by simp [h] at hw
    stop := fun _ => rfl }

theorem setStop {c : Scope} (h : c.stop = true) : Holds c.Frame (Machine.change fun s => { s with stop := true }) := fun _ =>
  { calls := ByCalls.of_port_eq rfl
    flags := fun _ _ => rfl
    regs := fun r _ => by cases r <;> rfl
    wait := fun _ => rfl
    stop := fun hs => by simp [h] at hs }

theorem setPc {c : Scope} (v : State → Addr) : Holds c.Frame (Machine.change fun s => { s with pc := v s }) :=
  fun _ => of_calls (ByCalls.of_port_eq rfl) rfl

theorem pullPc {c : Scope} (h : .s ∈ c.regs) : Holds c.Frame Machine.pullPc :=
  bind (pull h) fun _ => bind (pull h) fun _ => setPc _

/-- All eight flags are listed where the packed byte is pulled (R293, R301). -/
theorem pullPsw {c : Scope} (h : .s ∈ c.regs) (hf : c.flags = [.c, .z, .i, .h, .b, .p, .v, .n]) :
    Holds c.Frame Machine.pullPsw :=
  bind (pull h) fun _ => change fun _ => setFlags fun f hn => by cases f <;> simp [hf] at hn

theorem loadPointer {c : Scope} (d : Byte) : Holds c.Frame (Machine.loadPointer d) :=
  bind (load d) fun _ => bind (load (d + 1)) fun _ => pure _

theorem enterBreak : Holds (Scope.Frame { flags := [.i, .b], regs := [.s] }) Machine.enterBreak :=
  bind (pushPc (by simp)) fun _ => bind look fun s => bind (push (by simp) (packPsw s.flags)) fun _ => bind idle fun _ =>
    bind (jumpThrough _) fun _ => change fun _ => setFlags fun k hk => by cases k <;> simp_all [Flags.get]

/-! ### The one-byte register instructions -/

theorem transfer (r : Reg) (v : State → Byte) (s : State) :
    Scope.Frame { flags := [.z, .n], regs := [r.name] } s (s.transfer r (v s)) :=
  setFlagsReg (setZN_get (v s) s.flags) (by simp)

theorem applyAlu1 (f : Alu1) (r : Reg) (s : State) :
    Scope.Frame { flags := f.flags, regs := [r.name] } s (s.applyAlu1 f r) :=
  setFlagsReg (alu1_get f (s.reg r) s.flags) (by simp)

theorem mapFlags {c : Scope} {g : Flags → Flags} (h : ∀ f k, k ∉ c.flags → (g f).get k = f.get k) (s : State) :
    c.Frame s (s.mapFlags g) := setFlags (h s.flags)

theorem applyDaa (s : State) : Scope.Frame { flags := [.c, .z, .n], regs := [.a] } s
    { s with a := (daa s.a s.flags).1, flags := (daa s.a s.flags).2 } :=
  trans _ _ _ (setFlags (daa_get s.a s.flags)) (setA (.head _))

theorem applyDas (s : State) : Scope.Frame { flags := [.c, .z, .n], regs := [.a] } s
    { s with a := (das s.a s.flags).1, flags := (das s.a s.flags).2 } :=
  trans _ _ _ (setFlags (das_get s.a s.flags)) (setA (.head _))

theorem applyXcn (s : State) : Scope.Frame { flags := [.z, .n], regs := [.a] } s
    { s with a := (xcn s.a s.flags).1, flags := (xcn s.a s.flags).2 } :=
  trans _ _ _ (setFlags (setZN_get _ s.flags)) (setA (.head _))

theorem applyMul (s : State) : Scope.Frame { flags := [.z, .n], regs := [.a, .y] } s s.applyMul :=
  setFlagsYa (setZN_get _ s.flags) (by simp) (by simp)

theorem applyDiv (s : State) : Scope.Frame { flags := [.h, .v, .z, .n], regs := [.a, .y] } s s.applyDiv :=
  setFlagsYa (div_get s.a s.y s.x s.flags) (by simp) (by simp)

/-! ### Every instruction -/

/-- Every instruction stays inside the scope that the tables of the spec give it. -/
theorem of_exec {i : Instr} (h : exec i s = .next t) : (scopeOf i).Frame s t := by
  cases i with
  | orAImm | andAImm | eorAImm | cmpAImm | adcAImm | sbcAImm | movAImm | movXImm | movYImm | cmpXImm | cmpYImm =>
    exact (Holds.of_finish h (immediateRead _ _ _) :)
  | orAD | andAD | eorAD | cmpAD | adcAD | sbcAD | movAD | movXD | movYD | cmpXD | cmpYD
  | orAAbs | andAAbs | eorAAbs | cmpAAbs | adcAAbs | sbcAAbs | movAAbs | movXAbs | movYAbs | cmpXAbs | cmpYAbs
  | orADX | andADX | eorADX | cmpADX | adcADX | sbcADX | movADX | movXDY | movYDX
  | orAAbsX | andAAbsX | eorAAbsX | cmpAAbsX | adcAAbsX | sbcAAbsX | movAAbsX
  | orAAbsY | andAAbsY | eorAAbsY | cmpAAbsY | adcAAbsY | sbcAAbsY | movAAbsY
  | orAIndX | andAIndX | eorAIndX | cmpAIndX | adcAIndX | sbcAIndX | movAIndX
  | orAIndDX | andAIndDX | eorAIndDX | cmpAIndDX | adcAIndDX | sbcAIndDX | movAIndDX
  | orAIndDY | andAIndDY | eorAIndDY | cmpAIndDY | adcAIndDY | sbcAIndDY | movAIndDY =>
    exact (Holds.of_finish h (readInto _ _ _) :)
  | movAIndXInc =>
    exact Holds.of_finish h (bind dummyRead fun _ => bind look fun s => bind (load s.x) fun v =>
      bind (change fun t => trans t { t with x := t.x + 1 } _ (setX (.tail _ (.head _))) (setA (.head _))) fun _ =>
      bind idle fun _ => change fun t => setFlags (setZN_get v t.flags))
  | addwYaD | subwYaD | movwYaD => exact (Holds.of_finish h (readWord _ _) :)
  | cmpwYaD d =>
    exact Holds.of_finish h (bind fetchOperand fun _ => bind (loadPointer d) fun w => change fun s =>
      setFlags (aluW_get .cpw s.ya w s.flags))
  | movDA | movDX | movDY | movAbsA | movAbsX | movAbsY | movDXA | movDYX | movDXY | movAbsXA | movAbsYA | movIndXA
  | movIndDXA | movIndDYA => exact (Holds.of_finish h (storeFrom _ _) :)
  | movIndXIncA =>
    exact Holds.of_finish h (bind dummyRead fun _ => bind idle fun _ => bind look fun s => bind (store s.x s.a) fun _ =>
      change fun _ => setX (.head _))
  | movwDYa d =>
    exact Holds.of_finish h (bind fetchOperand fun _ => bind (load d) fun _ => bind look fun s =>
      bind (store d s.a) fun _ => store (d + 1) s.y)
  | movDImm d v =>
    exact Holds.of_finish h (bind fetchOperand fun _ => bind fetchOperand fun _ => bind (load d) fun _ => store d v)
  | aslD | rolD | lsrD | rorD | decD | incD | aslAbs | rolAbs | lsrAbs | rorAbs | decAbs | incAbs
  | aslDX | rolDX | lsrDX | rorDX | decDX | incDX => exact (Holds.of_finish h (modifyAt _ _) :)
  | decwD | incwD => exact (Holds.of_finish h (modifyWord _ _) :)
  | orDdDs | andDdDs | eorDdDs | adcDdDs | sbcDdDs => exact (Holds.of_finish h (modifyDirectDirect _ _ _) :)
  | cmpDdDs dd ds =>
    exact Holds.of_finish h (bind (loadSource ds) fun rhs => bind (load dd) fun lhs => compareOnly lhs rhs)
  | movDdDs dd ds => exact Holds.of_finish h (bind (loadSource ds) fun v => store dd v)
  | orDImm | andDImm | eorDImm | adcDImm | sbcDImm => exact (Holds.of_finish h (modifyDirectImmediate _ _ _) :)
  | cmpDImm d v =>
    exact Holds.of_finish h (bind fetchOperand fun _ => bind fetchOperand fun _ => bind (load d) fun lhs =>
      compareOnly lhs v)
  | orIndXIndY | andIndXIndY | eorIndXIndY | adcIndXIndY | sbcIndXIndY => exact (Holds.of_finish h (modifyIndirect _) :)
  | cmpIndXIndY => exact Holds.of_finish h (bind loadIndirectPair fun p => compareOnly p.2 p.1)
  | or1CMb a | or1CNotMb a | eor1CMb a =>
    exact Holds.of_finish h (bind (loadBitByte a) fun _ => bind idle fun _ => changeCarry _)
  | and1CMb a | and1CNotMb a | mov1CMb a => exact Holds.of_finish h (bind (loadBitByte a) fun _ => changeCarry _)
  | mov1MbC a =>
    exact Holds.of_finish h (bind (loadBitByte a) fun _ => bind idle fun _ => bind look fun _ => memWrite a _)
  | not1Mb a => exact Holds.of_finish h (bind (loadBitByte a) fun _ => memWrite a _)
  | set1Dbit | clr1Dbit => exact (Holds.of_finish h (writeDirectBit _ _ _) :)
  | tset1Abs | tclr1Abs => exact (Holds.of_finish h (testAndModify _ _) :)
  | bbsDbitRel | bbcDbitRel => exact (Holds.of_finish h (branchOnBit _ _ _ _) :)
  | bplRel | bmiRel | bvcRel | bvsRel | bccRel | bcsRel | bneRel | beqRel | braRel =>
    exact (Holds.of_finish h (branchOn _ _) :)
  | cbneDRel d r =>
    exact Holds.of_finish h (bind fetchOperand fun _ => bind (load d) fun _ => bind idle fun _ => bind fetchOperand fun _ =>
      bind look fun _ => branchIf _ r)
  | cbneDXRel d r =>
    exact Holds.of_finish h (bind (effectiveAddress (.directIndexed d .x)) fun a => bind (memRead a) fun _ =>
      bind idle fun _ => bind fetchOperand fun _ => bind look fun _ => branchIf _ r)
  | dbnzDRel d r =>
    exact Holds.of_finish h (bind fetchOperand fun _ => bind (load d) fun _ => bind (store d _) fun _ =>
      bind fetchOperand fun _ => branchIf _ r)
  | dbnzYRel r =>
    exact Holds.of_finish h (bind dummyRead fun _ => bind idle fun _ => bind fetchOperand fun _ =>
      bind (change fun _ => setY (.head _)) fun _ => bind look fun _ => branchIf _ r)
  | jmpAbs => exact Holds.of_finish h (bind fetchOperand fun _ => bind fetchOperand fun _ => setPc _)
  | jmpIndAbsX a =>
    exact Holds.of_finish h (bind (effectiveAddress (.absoluteIndexed a .x)) fun p => jumpThrough p)
  | callAbs =>
    exact Holds.of_finish h (bind fetchOperand fun _ => bind fetchOperand fun _ => bind idle fun _ =>
      bind (pushPc (.head _)) fun _ => bind idle fun _ => bind idle fun _ => setPc _)
  | pcallU =>
    exact Holds.of_finish h (bind fetchOperand fun _ => bind idle fun _ => bind (pushPc (.head _)) fun _ =>
      bind idle fun _ => setPc _)
  | tcallV v =>
    exact Holds.of_finish h (bind dummyRead fun _ => bind idle fun _ => bind (pushPc (.head _)) fun _ => bind idle fun _ =>
      jumpThrough (tableSlot v))
  | brk => exact (Holds.of_finish h (bind dummyRead fun _ => enterBreak) :)
  | ret => exact Holds.of_finish h (bind dummyRead fun _ => bind idle fun _ => pullPc (.head _))
  | reti =>
    exact Holds.of_finish h (bind dummyRead fun _ => bind idle fun _ =>
      bind (pullPsw (.head _) rfl) fun _ => pullPc (.head _))
  | pushPsw | pushA | pushX | pushY => exact (Holds.of_finish h (pushOf _) :)
  | popA | popX | popY => exact (Holds.of_finish h (popInto _) :)
  | popPsw =>
    exact Holds.of_finish h (bind dummyRead fun _ => bind idle fun _ => pullPsw (.head _) rfl)
  | nop => exact Holds.of_finish h (oneByte 0 refl)
  | movXA => exact Holds.of_finish h (oneByte 0 (transfer .x State.a))
  | movAX => exact Holds.of_finish h (oneByte 0 (transfer .a State.x))
  | movXSp => exact Holds.of_finish h (oneByte 0 (transfer .x State.sp))
  | movAY => exact Holds.of_finish h (oneByte 0 (transfer .a State.y))
  | movYA => exact Holds.of_finish h (oneByte 0 (transfer .y State.a))
  | movSpX => exact Holds.of_finish h (oneByte 0 fun _ => setSp (.head _))
  | aslA | rolA | lsrA | rorA | decA | incA | decX | incX | decY | incY =>
    exact (Holds.of_finish h (oneByte 0 (applyAlu1 _ _)) :)
  | clrp | setp | clrc | setc | clrv | notc | ei | di =>
    exact Holds.of_finish h (oneByte _ (mapFlags fun _ k hk => by
      cases k <;> simp_all [scopeOf, flagsWritten, Flags.get]))
  | xcnA => exact Holds.of_finish h (oneByte 3 applyXcn)
  | daaA => exact Holds.of_finish h (oneByte 1 applyDaa)
  | dasA => exact Holds.of_finish h (oneByte 1 applyDas)
  | mulYa => exact Holds.of_finish h (oneByte 7 applyMul)
  | divYaX => exact Holds.of_finish h (oneByte 10 applyDiv)
  | sleep => exact Holds.of_finish h (bind (setWait rfl) fun _ => haltLoop)
  | stop => exact Holds.of_finish h (bind (setStop rfl) fun _ => haltLoop)

end Scope.Frame
/-! ### Where PC goes (R46) -/

/-- PC moves past `n` operand bytes. -/
def Moves (n : Nat) (s t : State) : Prop := t.pc = s.pc + BitVec.ofNat 16 n

/-- How many operand bytes an operand form has. -/
def Mode.bytes : Mode → Nat
  | .direct _ | .directIndexed _ _ | .indexedIndirect _ | .indirectIndexed _ => 1
  | .absolute _ | .absoluteIndexed _ _ => 2
  | .indirectX => 0

namespace Moves

variable {s t : State}

theorem zero (h : t.pc = s.pc) : Moves 0 s t := h.trans (BitVec.add_zero s.pc).symm

theorem one (h : t.pc = s.pc + 1) : Moves 1 s t := h

theorem two (h : t.pc = s.pc + 1 + 1) : Moves 2 s t := h.trans (add_one_one s.pc)

theorem effectiveAddress (m : Mode) : Holds (Moves m.bytes) (Machine.effectiveAddress m) := by
  intro s
  rw [effectiveAddress_state]
  cases m with
  | indirectX => exact zero rfl
  | direct | directIndexed | indexedIndirect | indirectIndexed => exact one rfl
  | absolute | absoluteIndexed => exact two rfl

theorem readInto (f : Alu2) (r : Reg) (m : Mode) : Holds (Moves m.bytes) (Machine.readInto f r m) := fun s => by
  rw [readInto_run]
  exact (applyAlu2_pc _ f r _).trans (effectiveAddress m s)

theorem storeFrom (r : Reg) (m : Mode) : Holds (Moves m.bytes) (Machine.storeFrom r m) := fun s => by
  rw [storeFrom_run]
  exact effectiveAddress m s

theorem modifyAt (f : Alu1) (m : Mode) : Holds (Moves m.bytes) (Machine.modifyAt f m) := fun s => by
  rw [modifyAt_run]
  exact effectiveAddress m s

theorem oneByte {g : State → State} (n : Nat) (h : ∀ s, (g s).pc = s.pc) : Holds (Moves 0) (Machine.oneByte n g) :=
  fun s => zero (by rw [oneByte_run, h])

theorem haltLoop : Holds (Moves 0) Machine.haltLoop := fun s => zero (by rw [haltLoop_run])

end Moves

/-- An instruction that transfers no control moves PC past its operand bytes. -/
theorem exec_moves {i : Instr} {s t : State} (hc : transfersControl i = false) (h : exec i s = .next t) :
    Moves (i.length - 1) s t := by
  cases i with
  | bbsDbitRel | bbcDbitRel | bplRel | bmiRel | bvcRel | bvsRel | bccRel | bcsRel | bneRel | beqRel | braRel | cbneDRel
  | cbneDXRel | dbnzDRel | dbnzYRel | jmpAbs | jmpIndAbsX | callAbs | pcallU | tcallV | brk | ret | reti =>
    exact absurd hc Bool.noConfusion
  | orAD | andAD | eorAD | cmpAD | adcAD | sbcAD | movAD | movXD | movYD | cmpXD | cmpYD
  | orAAbs | andAAbs | eorAAbs | cmpAAbs | adcAAbs | sbcAAbs | movAAbs | movXAbs | movYAbs | cmpXAbs | cmpYAbs
  | orADX | andADX | eorADX | cmpADX | adcADX | sbcADX | movADX | movXDY | movYDX
  | orAAbsX | andAAbsX | eorAAbsX | cmpAAbsX | adcAAbsX | sbcAAbsX | movAAbsX
  | orAAbsY | andAAbsY | eorAAbsY | cmpAAbsY | adcAAbsY | sbcAAbsY | movAAbsY
  | orAIndX | andAIndX | eorAIndX | cmpAIndX | adcAIndX | sbcAIndX | movAIndX
  | orAIndDX | andAIndDX | eorAIndDX | cmpAIndDX | adcAIndDX | sbcAIndDX | movAIndDX
  | orAIndDY | andAIndDY | eorAIndDY | cmpAIndDY | adcAIndDY | sbcAIndDY | movAIndDY =>
    exact (Holds.of_finish h (Moves.readInto _ _ _) :)
  | movDA | movDX | movDY | movAbsA | movAbsX | movAbsY | movDXA | movDYX | movDXY | movAbsXA | movAbsYA | movIndXA
  | movIndDXA | movIndDYA => exact (Holds.of_finish h (Moves.storeFrom _ _) :)
  | aslD | rolD | lsrD | rorD | decD | incD | aslAbs | rolAbs | lsrAbs | rorAbs | decAbs | incAbs
  | aslDX | rolDX | lsrDX | rorDX | decDX | incDX => exact (Holds.of_finish h (Moves.modifyAt _ _) :)
  | orAImm | andAImm | eorAImm | cmpAImm | adcAImm | sbcAImm | movAImm | movXImm | movYImm | cmpXImm | cmpYImm
  | addwYaD | subwYaD | movwYaD | cmpwYaD | movwDYa | decwD | incwD | set1Dbit | clr1Dbit =>
    cases h; exact Moves.one rfl
  | movDImm | orDdDs | andDdDs | eorDdDs | adcDdDs | sbcDdDs | cmpDdDs | movDdDs
  | orDImm | andDImm | eorDImm | adcDImm | sbcDImm | cmpDImm | or1CMb | or1CNotMb | and1CMb | and1CNotMb | eor1CMb
  | mov1CMb | mov1MbC | not1Mb | tset1Abs | tclr1Abs =>
    cases h; exact Moves.two rfl
  | movAIndXInc | movIndXIncA | orIndXIndY | andIndXIndY | eorIndXIndY | adcIndXIndY | sbcIndXIndY | cmpIndXIndY
  | pushPsw | pushA | pushX | pushY | popA | popX | popY | popPsw =>
    cases h; exact Moves.zero rfl
  | nop | movXA | movAX | movXSp | movSpX | movAY | movYA | aslA | rolA | lsrA | rorA | decA | incA | decX | incX | decY
  | incY | clrp | setp | clrc | setc | ei | di | clrv | notc | xcnA | daaA | dasA | mulYa | divYaX =>
    exact Holds.of_finish h (Moves.oneByte _ fun _ => rfl)
  | sleep | stop => exact Holds.of_finish h fun _ => Moves.haltLoop _

/-! ### The packed flag byte (R24) -/

theorem packPsw_toNat (f : Flags) : (packPsw f).toNat =
    f.nf.toNat * 128 + f.vf.toNat * 64 + f.pf.toNat * 32 + f.bf.toNat * 16 + f.hf.toNat * 8 + f.iflag.toNat * 4
      + f.zf.toNat * 2 + f.cf.toNat := by
  have := f.nf.toNat_le; have := f.vf.toNat_le; have := f.pf.toNat_le; have := f.bf.toNat_le
  have := f.hf.toNat_le; have := f.iflag.toNat_le; have := f.zf.toNat_le; have := f.cf.toNat_le
  rw [packPsw, BitVec.toNat_ofNat]
  omega

/-- Bit `k` of a byte, as a number. -/
theorem toNat_getLsbD (b : Byte) (k : Nat) : (b.getLsbD k).toNat = b.toNat / 2 ^ k % 2 := Nat.toNat_testBit b.toNat k

theorem packPsw_unpackPsw (b : Byte) : packPsw (unpackPsw b) = b := by
  apply BitVec.eq_of_toNat_eq
  simp only [packPsw_toNat, unpackPsw, toNat_getLsbD]
  omega

theorem unpackPsw_packPsw (f : Flags) : unpackPsw (packPsw f) = f := by
  have := f.nf.toNat_le; have := f.vf.toNat_le; have := f.pf.toNat_le; have := f.bf.toNat_le
  have := f.hf.toNat_le; have := f.iflag.toNat_le; have := f.zf.toNat_le; have := f.cf.toNat_le
  have bit (k : Nat) (v : Bool) (h : (packPsw f).toNat / 2 ^ k % 2 = v.toNat) : (packPsw f).getLsbD k = v :=
    Function.LeftInverse.injective Bool.ofNat_toNat ((toNat_getLsbD _ k).trans h)
  simp only [packPsw_toNat] at bit
  rw [unpackPsw, bit 0 f.cf (by omega), bit 1 f.zf (by omega), bit 2 f.iflag (by omega), bit 3 f.hf (by omega),
    bit 4 f.bf (by omega), bit 5 f.pf (by omega), bit 6 f.vf (by omega), bit 7 f.nf (by omega)]

/-! ### The step and the invariant (R28, R62) -/

/-- What a step is: the halt loop when a sub-state is set, else the opcode fetch and the rule of the fetched instruction. -/
theorem step_cases {s t : State} (h : step s = .next t) :
    (s.halted ∧ finish haltLoop s = .next t) ∨
    (s.wait = false ∧ s.stop = false ∧ exec (fetchedInstr s) (fetch s).2 = .next t) := by
  unfold step at h
  split at h
  case isTrue hh => exact .inl ⟨by simpa [State.halted] using hh, h⟩
  case isFalse hh =>
    simp only [Bool.or_eq_true, not_or, Bool.not_eq_true] at hh
    exact .inr ⟨hh.1, hh.2, h⟩

/-- Inside the scope of one instruction, at most one of `wait` and `stop` can be set: `SLEEP` and `STOP` differ. -/
theorem Scope.Frame.inv {i : Instr} {s t : State} (h : (scopeOf i).Frame s t) (hm : s.port.mem.wf = true)
    (hw : s.wait = false) (hs : s.stop = false) : t.Inv where
  mem_wf := h.calls.wf hm
  one_mode := by
    rintro ⟨tw, ts⟩
    by_cases hi : i = .sleep
    · rw [h.stop (by simp [scopeOf, hi]), hs] at ts
      cases ts
    · rw [h.wait (by simp [scopeOf, hi]), hw] at tw
      cases tw

/-! ### The obligations -/

/-- Settles O20: a halted step only makes port calls; any other is the opcode fetch and one instruction. -/
theorem everyStepKeepsTheInvariant : Obligations.EveryStepKeepsTheInvariant := by
  unfold Obligations.EveryStepKeepsTheInvariant
  intro s t hi h
  obtain ⟨-, h⟩ | ⟨hw, hs, h⟩ := step_cases h
  · have k : Scope.Frame {} s t := Holds.of_finish h Scope.Frame.haltLoop
    exact ⟨k.calls.wf hi.mem_wf, by rw [k.wait rfl, k.stop rfl]; exact hi.one_mode⟩
  · exact Scope.Frame.inv (.trans _ _ _ (Scope.Frame.fetch s) (.of_exec h)) hi.mem_wf hw hs

/-- Settles O22, from the weights and the bits of the packed byte. -/
theorem packedFlagByte : Obligations.PackedFlagByte :=
  ⟨packPsw_toNat, fun _ => rfl, unpackPsw_packPsw, packPsw_unpackPsw⟩

/-- Settles O56, from the frame of every instruction. -/
theorem flagsNotListedKeepTheirValue : Obligations.FlagsNotListedKeepTheirValue :=
  fun _ _ _ f h hf => (Scope.Frame.of_exec h).flags f hf

/-- Settles O57, from the frame of every instruction. -/
theorem registersNotWrittenKeepTheirValue : Obligations.RegistersNotWrittenKeepTheirValue :=
  fun _ _ _ h =>
    have k := Scope.Frame.of_exec h
    ⟨k.regs, fun hi => k.wait (decide_eq_false hi), fun hi => k.stop (decide_eq_false hi)⟩

/-- Settles O59, from the number of operand bytes each rule fetches. -/
theorem pcMovesPastTheInstruction : Obligations.PcMovesPastTheInstruction := fun _ _ _ hc h => exec_moves hc h

/-- Settles O1: `power()` is that record, and `PSW_RESET` unpacks to the reset flags. -/
theorem powerWritesResetRecord : Obligations.PowerWritesResetRecord := ⟨fun _ => rfl, rfl⟩

/-- Settles O21: no sub-state is set after `power()`, and the RAM is the one found there. -/
theorem resetMeetsTheInvariant : Obligations.ResetMeetsTheInvariant :=
  ⟨⟨rfl, by simp [State.reset]⟩, fun _ h => ⟨h, by simp [power]⟩⟩

end Sys2Proof.Machine
end

section
/-! PROOFS. The memory (20_memory.md): the port calls of every instruction. `Makes pre stores s t` says that `t` comes from
`s` by port calls that begin with `pre` and write to the addresses `stores`. `exec_makes` shows it once of every instruction,
`pre` being the calls up to its last operand fetch and `stores` the spec's table; that the operand bytes are fetched and that
memory not stored to keeps its value are then read off the calls. -/

namespace Sys2Proof.Machine

/-! ### The addresses of the direct page and of the stack (R47, R49) -/

theorem dp_toNat (s : State) (d : Byte) : (s.dp d).toNat = s.flags.pf.toNat * 256 + d.toNat := by
  unfold State.dp
  rw [wordOf_toNat]
  cases s.flags.pf <;> rfl

theorem wordOf_stackPage (b : Byte) : wordOf b Config.stackPage = BitVec.ofNat 16 (0x0100 + b.toNat) := by
  apply BitVec.eq_of_toNat_eq
  rw [stackPage_toNat, BitVec.toNat_ofNat]
  omega

theorem stackAddrAt_zero (s : State) : s.stackAddrAt 0 = s.stackAddr := by simp [State.stackAddrAt, State.stackAddr]

theorem stackAddrs_of_pushPc (s : State) :
    [s.stackAddrAt 0, s.stackAddrAt 1] = [s.stackAddr, wordOf (s.sp - 1) Config.stackPage] := by
  rw [stackAddrAt_zero]; rfl

theorem stackAddrs_of_enterBreak (s : State) :
    [s.stackAddrAt 0, s.stackAddrAt 1, s.stackAddrAt 2] =
      [s.stackAddr, wordOf (s.sp - 1) Config.stackPage, wordOf (s.sp - 1 - 1) Config.stackPage] := by
  rw [stackAddrAt_zero, sub_one_one]; rfl

/-! ### The state after some operand bytes and calls -/

theorem after_zero (s : State) (rs : List Request) : s.after 0 rs = { s with port := s.port.performAll rs } := by
  rw [State.after, show s.pc + 0 = s.pc from BitVec.add_zero s.pc]

theorem after_two (s : State) (rs : List Request) :
    s.after 2 rs = { s with pc := s.pc + 1 + 1, port := s.port.performAll rs } := by
  rw [State.after, add_one_one]

/-! ### The calls a sequence of requests logs (R56) -/

/-- A request with the answer that the port gives it. -/
def Port.entry (p : Port) : Request → PortCall
  | .read a => .read a (p.answer a)
  | .write a v => .write a v
  | .idle => .idle
  | .sync => .sync p.syncAnswer

/-- The log entries of a sequence of requests, the first of them first. -/
def Port.entries (p : Port) : List Request → List PortCall
  | [] => []
  | r :: rest => p.entry r :: (p.perform r).entries rest

theorem perform_log (p : Port) (r : Request) : (p.perform r).log = p.entry r :: p.log := by cases r <;> rfl

theorem performAll_log (p : Port) (rs : List Request) : (p.performAll rs).log = (p.entries rs).reverse ++ p.log := by
  induction rs generalizing p with
  | nil => rfl
  | cons r rest ih => rw [performAll_cons, ih, perform_log, Port.entries, List.reverse_cons, List.append_assoc]; rfl

/-- The calls made since a port are the entries of the requests that were performed. -/
theorem callSince_performAll (p : Port) (rs : List Request) (n : Nat) :
    (p.performAll rs).callSince p n = (p.entries rs)[n]? := by
  rw [Port.callSince, performAll_log, List.length_append, Nat.add_sub_cancel, List.take_left, List.reverse_reverse]

/-! ### What a sequence of requests writes -/

theorem writtenBy_append (rs qs : List Request) : writtenBy (rs ++ qs) = writtenBy rs ++ writtenBy qs := by
  induction rs with
  | nil => rfl
  | cons r rest ih =>
    cases r with
    | read | idle | sync => exact ih
    | write a => exact congrArg (a :: ·) ih

theorem writtenBy_idles (n : Nat) : writtenBy (List.replicate n .idle) = [] := by
  induction n with
  | zero => rfl
  | succ n ih => exact ih

theorem writtenBy_haltRequests (pc : Addr) (l : List Bool) : writtenBy (haltRequests pc l) = [] := by
  induction l with
  | nil => rfl
  | cons b rest ih =>
    cases b with
    | true => rfl
    | false => exact ih

/-! ### The reference port: what a read is answered with after a write (R42, R62) -/

/-- With no script, a read of the address written is answered with the byte written, any other as before. -/
theorem answer_perform_write {p : Port} (hm : p.mem.wf = true) (hn : p.answers = []) (a b : Addr) (v : Byte) :
    (p.perform (.write a v)).answer b = if b = a then v else p.answer b := by
  rw [answer_of_no_script (p.perform (.write a v)) b hn, answer_of_no_script p b hn, perform_write_mem]
  split
  case isTrue h => rw [h, readByte_writeByte_same _ _ _ hm]
  case isFalse h => exact readByte_writeByte_other _ _ _ _ fun e => h (BitVec.eq_of_toNat_eq e)

/-- The displacement of `DBNZ d,r` is one less where d is its own address (R284). -/
theorem answer_portAtDbnzDisplacement {s : State} (hm : s.port.mem.wf = true) (hn : s.port.answers = []) (d : Byte)
    (a : Addr) :
    (portAtDbnzDisplacement d s).answer a =
      if s.dp d = a then s.port.mem.readByte a.toNat - 1 else s.port.mem.readByte a.toNat := by
  have reads : (s.port.performAll [.read s.pc, .read (s.dp d)]).answers = [] := performAll_answers_nil _ _ hn
  rw [portAtDbnzDisplacement, answer_perform_write (wf_performAll _ _ hm) reads, upcoming_of_no_script _ _ _ hn,
    answer_of_no_script _ _ reads]
  by_cases h : s.dp d = a
  · rw [if_pos h, if_pos h.symm, h]
  · rw [if_neg h, if_neg (Ne.symm h)]; rfl

/-! ### The calls of the executors -/

/-- From `s` to `t` by port calls that begin with `pre` and write to the addresses `stores`, in that order. -/
def Makes (pre : List Request) (stores : List Addr) (s t : State) : Prop :=
  ∃ qs, t.port = s.port.performAll (pre ++ qs) ∧ writtenBy (pre ++ qs) = stores

/-- The fetches of `n` operand bytes with no other call before or between them. -/
def fetches (n : Nat) (s : State) : List Request := [Request.read s.pc, .read (s.pc + 1)].take n

namespace Makes

variable {pre : List Request} {s t : State}

/-- The halt loop writes nothing (R334). -/
theorem haltLoop (s : State) : Makes [] [] s (Machine.haltLoop s).2 := by
  rw [haltLoop_run]
  exact ⟨haltRequests s.pc s.port.syncs, rfl, writtenBy_haltRequests _ _⟩

theorem oneByte (n : Nat) {g : State → State} (h : ∀ s, (g s).port = s.port) (s : State) :
    Makes [] [] s (Machine.oneByte n g s).2 := by
  rw [oneByte_run]
  exact ⟨.read s.pc :: List.replicate n .idle, h _, writtenBy_idles n⟩

/-- An operand form fetches its operand bytes first. -/
theorem fetches_prefix_modeRequests (m : Mode) (s : State) : fetches m.bytes s <+: modeRequests m s := by
  cases m <;> exact ⟨_, rfl⟩

/-- What an executor does at the address of an operand form comes after the calls that find it. -/
theorem of_mode {m : Mode} {rs : List Request} (h : t.port = (effectiveAddress m s).2.port.performAll rs) :
    Makes (fetches m.bytes s) (writtenBy rs) s t := by
  obtain ⟨qs, hq⟩ := fetches_prefix_modeRequests m s
  refine ⟨qs ++ rs, ?_, ?_⟩
  · rw [h, effectiveAddress_state, ← performAll_append, ← hq, List.append_assoc]
  · rw [← List.append_assoc, hq, writtenBy_append, modeRequests_write_nothing, List.nil_append]

theorem readInto (f : Alu2) (r : Reg) (m : Mode) (s : State) :
    Makes (fetches m.bytes s) [] s (Machine.readInto f r m s).2 :=
  of_mode (rs := [.read _]) (by rw [readInto_run]; exact applyAlu2_port _ f r _)

theorem storeFrom (r : Reg) (m : Mode) (s : State) :
    Makes (fetches m.bytes s) [(effectiveAddress m s).1] s (Machine.storeFrom r m s).2 :=
  of_mode (rs := [.read _, .write _ _]) (by rw [storeFrom_run])

theorem modifyAt (f : Alu1) (m : Mode) (s : State) :
    Makes (fetches m.bytes s) [(effectiveAddress m s).1] s (Machine.modifyAt f m s).2 :=
  of_mode (rs := [.read _, .write _ _]) (by rw [modifyAt_run])

theorem readWord (f : AluW) (d : Byte) (s : State) : Makes (fetches 1 s) [] s (Machine.readWord f d s).2 :=
  ⟨[.read _, .idle, .read _], rfl, rfl⟩

theorem modifyWord (delta : Addr) (d : Byte) (s : State) :
    Makes (fetches 1 s) [s.dp d, s.dp (d + 1)] s (Machine.modifyWord delta d s).2 :=
  ⟨[.read _, .write _ _, .read _, .write _ _], rfl, rfl⟩

theorem modifyDirectDirect (f : Alu2) (dd ds : Byte) (s : State) :
    Makes [.read s.pc, .read (s.dp ds), .read (s.pc + 1)] [s.dp dd] s (Machine.modifyDirectDirect f dd ds s).2 :=
  ⟨[.read _, .write _ _], rfl, rfl⟩

theorem modifyDirectImmediate (f : Alu2) (d v : Byte) (s : State) :
    Makes (fetches 2 s) [s.dp d] s (Machine.modifyDirectImmediate f d v s).2 :=
  ⟨[.read _, .write _ _], rfl, rfl⟩

theorem modifyIndirect (f : Alu2) (s : State) : Makes [] [s.dp s.x] s (Machine.modifyIndirect f s).2 :=
  ⟨[.read _, .read _, .read _, .write _ _], rfl, rfl⟩

theorem writeDirectBit (b : Nat) (c : Bool) (d : Byte) (s : State) :
    Makes (fetches 1 s) [s.dp d] s (Machine.writeDirectBit b c d s).2 :=
  ⟨[.read _, .write _ _], rfl, rfl⟩

theorem testAndModify (f : Byte → Byte → Byte) (a : Addr) (s : State) :
    Makes (fetches 2 s) [a] s (Machine.testAndModify f a s).2 :=
  ⟨[.read _, .read _, .write _ _], rfl, rfl⟩

/-- The tail of a branch makes no call or two idle calls (R272). -/
theorem branchIf {stores : List Addr} (h : t.port = s.port.performAll pre) (hw : writtenBy pre = stores) (taken : Bool)
    (r : Byte) : Makes pre stores s (Machine.branchIf taken r t).2 := by
  rw [branchIf_run]
  cases taken with
  | false => exact ⟨[], by simpa using h, by simpa using hw⟩
  | true => exact ⟨[.idle, .idle], by rw [performAll_append, ← h]; rfl, by simpa [writtenBy_append, writtenBy] using hw⟩

theorem branchOn (cond : Flags → Bool) (r : Byte) (s : State) :
    Makes (fetches 1 s) [] s (Machine.branchOn cond r s).2 := branchIf rfl rfl _ r

theorem branchOnBit (b : Nat) (c : Bool) (d r : Byte) (s : State) :
    Makes [.read s.pc, .read (s.dp d), .idle, .read (s.pc + 1)] [] s (Machine.branchOnBit b c d r s).2 :=
  branchIf rfl rfl _ r

theorem pushOf (v : State → Byte) (s : State) : Makes [] [s.stackAddrAt 0] s (Machine.pushOf v s).2 :=
  ⟨[.read _, .write _ _, .idle], rfl, by rw [stackAddrAt_zero]; rfl⟩

theorem popInto (r : Reg) (s : State) : Makes [] [] s (Machine.popInto r s).2 :=
  ⟨[.read _, .idle, .read _], by rw [popInto_run]; exact setReg_port _ r _, rfl⟩

end Makes

/-! ### The calls of every instruction -/

/-- The calls of a rule up to the fetch of its last operand byte, `s` being the state after the opcode fetch. Most rules fetch
all their operand bytes first; `dd,ds`, the bit branches, `CBNE` and `DBNZ` do not (R239 to R245, R270, R271, R282 to R285). -/
def operandCalls (i : Instr) (s : State) : List Request :=
  match i with
  | .orDdDs _ ds | .andDdDs _ ds | .eorDdDs _ ds | .adcDdDs _ ds | .sbcDdDs _ ds | .cmpDdDs _ ds | .movDdDs _ ds =>
    [.read s.pc, .read (s.dp ds), .read (s.pc + 1)]
  | .bbsDbitRel _ d _ | .bbcDbitRel _ d _ | .cbneDRel d _ => [.read s.pc, .read (s.dp d), .idle, .read (s.pc + 1)]
  | .cbneDXRel d _ => [.read s.pc, .idle, .read (s.dp (d + s.x)), .idle, .read (s.pc + 1)]
  | .dbnzDRel d _ =>
    [.read s.pc, .read (s.dp d), .write (s.dp d) (s.port.upcoming 1 (s.dp d) - 1), .read (s.pc + 1)]
  | .dbnzYRel _ => [.read s.pc, .idle, .read s.pc]
  | i => fetches (i.length - 1) s

/-- Every instruction begins with the calls that fetch its operand bytes and stores to the addresses that the table of the
spec lists. -/
theorem exec_makes {i : Instr} {s t : State} (h : exec i s = .next t) : Makes (operandCalls i s) (storesTo i s) s t := by
  cases i with
  | orAImm | andAImm | eorAImm | cmpAImm | adcAImm | sbcAImm | movAImm | movXImm | movYImm | cmpXImm | cmpYImm =>
    cases h; exact ⟨[], rfl, rfl⟩
  | orAD | andAD | eorAD | cmpAD | adcAD | sbcAD | movAD | movXD | movYD | cmpXD | cmpYD
  | orAAbs | andAAbs | eorAAbs | cmpAAbs | adcAAbs | sbcAAbs | movAAbs | movXAbs | movYAbs | cmpXAbs | cmpYAbs
  | orADX | andADX | eorADX | cmpADX | adcADX | sbcADX | movADX | movXDY | movYDX
  | orAAbsX | andAAbsX | eorAAbsX | cmpAAbsX | adcAAbsX | sbcAAbsX | movAAbsX
  | orAAbsY | andAAbsY | eorAAbsY | cmpAAbsY | adcAAbsY | sbcAAbsY | movAAbsY
  | orAIndX | andAIndX | eorAIndX | cmpAIndX | adcAIndX | sbcAIndX | movAIndX
  | orAIndDX | andAIndDX | eorAIndDX | cmpAIndDX | adcAIndDX | sbcAIndDX | movAIndDX
  | orAIndDY | andAIndDY | eorAIndDY | cmpAIndDY | adcAIndDY | sbcAIndDY | movAIndDY =>
    cases h; exact Makes.readInto _ _ _ s
  | movAIndXInc => cases h; exact ⟨[.read _, .read _, .idle], rfl, rfl⟩
  | addwYaD | subwYaD | movwYaD => cases h; exact Makes.readWord _ _ s
  | cmpwYaD => cases h; exact ⟨[.read _, .read _], rfl, rfl⟩
  | movDA | movDX | movDY | movAbsA | movAbsX | movAbsY | movDXA | movDYX | movDXY | movAbsXA | movAbsYA | movIndXA
  | movIndDXA | movIndDYA => cases h; exact Makes.storeFrom _ _ s
  | movIndXIncA => cases h; exact ⟨[.read _, .idle, .write _ _], rfl, rfl⟩
  | movwDYa => cases h; exact ⟨[.read _, .write _ _, .write _ _], rfl, rfl⟩
  | movDImm => cases h; exact ⟨[.read _, .write _ _], rfl, rfl⟩
  | aslD | rolD | lsrD | rorD | decD | incD | aslAbs | rolAbs | lsrAbs | rorAbs | decAbs | incAbs
  | aslDX | rolDX | lsrDX | rorDX | decDX | incDX => cases h; exact Makes.modifyAt _ _ s
  | decwD | incwD => cases h; exact Makes.modifyWord _ _ s
  | orDdDs | andDdDs | eorDdDs | adcDdDs | sbcDdDs => cases h; exact Makes.modifyDirectDirect _ _ _ s
  | cmpDdDs => cases h; exact ⟨[.read _, .idle], rfl, rfl⟩
  | movDdDs => cases h; exact ⟨[.write _ _], rfl, rfl⟩
  | orDImm | andDImm | eorDImm | adcDImm | sbcDImm => cases h; exact Makes.modifyDirectImmediate _ _ _ s
  | cmpDImm => cases h; exact ⟨[.read _, .idle], rfl, rfl⟩
  | orIndXIndY | andIndXIndY | eorIndXIndY | adcIndXIndY | sbcIndXIndY => cases h; exact Makes.modifyIndirect _ s
  | cmpIndXIndY => cases h; exact ⟨[.read _, .read _, .read _, .idle], rfl, rfl⟩
  | or1CMb | or1CNotMb | eor1CMb => cases h; exact ⟨[.read _, .idle], rfl, rfl⟩
  | and1CMb | and1CNotMb | mov1CMb => cases h; exact ⟨[.read _], rfl, rfl⟩
  | mov1MbC => cases h; exact ⟨[.read _, .idle, .write _ _], rfl, rfl⟩
  | not1Mb => cases h; exact ⟨[.read _, .write _ _], rfl, rfl⟩
  | set1Dbit | clr1Dbit => cases h; exact Makes.writeDirectBit _ _ _ s
  | tset1Abs | tclr1Abs => cases h; exact Makes.testAndModify _ _ s
  | bbsDbitRel | bbcDbitRel => cases h; exact Makes.branchOnBit _ _ _ _ s
  | bplRel | bmiRel | bvcRel | bvsRel | bccRel | bcsRel | bneRel | beqRel | braRel =>
    cases h; exact Makes.branchOn _ _ s
  | cbneDRel | cbneDXRel | dbnzDRel | dbnzYRel => cases h; exact Makes.branchIf rfl rfl _ _
  | jmpAbs => cases h; exact ⟨[], rfl, rfl⟩
  | jmpIndAbsX => cases h; exact ⟨[.idle, .read _, .read _], rfl, rfl⟩
  | callAbs =>
    cases h; exact ⟨[.idle, .write _ _, .write _ _, .idle, .idle], rfl, (stackAddrs_of_pushPc s).symm⟩
  | pcallU => cases h; exact ⟨[.idle, .write _ _, .write _ _, .idle], rfl, (stackAddrs_of_pushPc s).symm⟩
  | tcallV =>
    cases h
    exact ⟨[.read _, .idle, .write _ _, .write _ _, .idle, .read _, .read _], rfl, (stackAddrs_of_pushPc s).symm⟩
  | brk =>
    cases h
    exact ⟨[.read _, .write _ _, .write _ _, .write _ _, .idle, .read _, .read _], rfl,
      (stackAddrs_of_enterBreak s).symm⟩
  | ret => cases h; exact ⟨[.read _, .idle, .read _, .read _], rfl, rfl⟩
  | reti => cases h; exact ⟨[.read _, .idle, .read _, .read _, .read _], rfl, rfl⟩
  | pushPsw | pushA | pushX | pushY => cases h; exact Makes.pushOf _ s
  | popA | popX | popY => cases h; exact Makes.popInto _ s
  | popPsw => cases h; exact ⟨[.read _, .idle, .read _], rfl, rfl⟩
  | nop | movXA | movAX | movXSp | movSpX | movAY | movYA | aslA | rolA | lsrA | rorA | decA | incA | decX | incX | decY
  | incY | clrp | setp | clrc | setc | ei | di | clrv | notc | xcnA | daaA | dasA | mulYa | divYaX =>
    cases h; exact Makes.oneByte _ (fun _ => rfl) s
  | sleep | stop => cases h; exact Makes.haltLoop _

/-! ### The operand bytes are the answers of their fetches (R46, R72) -/

/-- Two functions of an opcode agree when they agree on the sixteen rows and columns of the grid. -/
theorem eq_of_grid {α : Type} [DecidableEq α] {f g : Byte → α}
    (h : ((List.range 16).all fun row => (List.range 16).all fun col =>
      decide (f (.ofNat 8 (16 * row + col)) = g (.ofNat 8 (16 * row + col)))) = true) (op : Byte) : f op = g op := by
  simp only [List.all_eq_true, List.mem_range, decide_eq_true_eq] at h
  have at_op := h (op.toNat / 16) (by omega) (op.toNat % 16) (by omega)
  rwa [Nat.div_add_mod, BitVec.ofNat_toNat, BitVec.setWidth_eq] at at_op

/-- How many reads a rule makes before the fetch of its first operand byte. -/
def readsBeforeFirst : Instr → Nat
  | .dbnzYRel _ => 1
  | _ => 0

/-- `DBNZ d,r` writes before its last fetch; no other rule does. -/
def writesBeforeFetch : Instr → Bool
  | .dbnzDRel _ _ => true
  | _ => false

/-- What the first operand fetch is answered with, `s` being the state after the opcode fetch. -/
def operand1Answer (i : Instr) (s : State) : Byte := s.port.upcoming (readsBeforeFirst i) s.pc

/-- What the second operand fetch is answered with. -/
def operand2Answer (i : Instr) (s : State) : Byte :=
  match i with
  | .dbnzDRel d _ => (portAtDbnzDisplacement d s).answer (s.pc + 1)
  | i => s.port.upcoming (readsBeforeOperand2 i) (s.pc + 1)

theorem readsBeforeFirst_decodeOp (op b1 b2 : Byte) : readsBeforeFirst (decodeOp op b1 b2) = readsBeforeOperand1 op :=
  eq_of_grid (f := fun op => readsBeforeFirst (decodeOp op b1 b2)) rfl op

theorem writesBeforeFetch_decodeOp (op b1 b2 : Byte) : writesBeforeFetch (decodeOp op b1 b2) = decide (op = 0x6E) :=
  eq_of_grid (f := fun op => writesBeforeFetch (decodeOp op b1 b2)) (g := fun op => decide (op = 0x6E)) rfl op

/-- The second operand byte has no part in how many reads come before its fetch. -/
theorem readsBeforeOperand2_decodeOp (op b1 b2 c2 : Byte) :
    readsBeforeOperand2 (decodeOp op b1 b2) = readsBeforeOperand2 (decodeOp op b1 c2) :=
  eq_of_grid (f := fun op => readsBeforeOperand2 (decodeOp op b1 b2))
    (g := fun op => readsBeforeOperand2 (decodeOp op b1 c2)) rfl op

theorem operand2Answer_of_not_writesBeforeFetch {i : Instr} (h : writesBeforeFetch i = false) (s : State) :
    operand2Answer i s = s.port.upcoming (readsBeforeOperand2 i) (s.pc + 1) := by
  unfold operand2Answer
  split
  · exact absurd h Bool.noConfusion
  · rfl

theorem operand2Answer_decodeOp (op b1 b2 : Byte) (s : State) :
    operand2Answer (decodeOp op b1 b2) s =
      if op = 0x6E then (portAtDbnzDisplacement b1 s).answer (s.pc + 1)
      else s.port.upcoming (readsBeforeOperand2 (decodeOp op b1 0)) (s.pc + 1) := by
  split
  case isTrue h => subst h; rfl
  case isFalse h =>
    rw [operand2Answer_of_not_writesBeforeFetch (by rw [writesBeforeFetch_decodeOp]; exact decide_eq_false h),
      readsBeforeOperand2_decodeOp op b1 b2 0]

/-- The bytes given to the decoder are the answers of the fetches of the instruction they decode to. -/
theorem fetchedBytes_eq (s : State) :
    fetchedBytes s =
      [s.port.answer s.pc, operand1Answer (fetchedInstr s) (fetch s).2, operand2Answer (fetchedInstr s) (fetch s).2] := by
  have first : operand1Answer (fetchedInstr s) (fetch s).2 = (fetchedBytes s).getD 1 0 :=
    congrArg (fun n => (fetch s).2.port.upcoming n _) (readsBeforeFirst_decodeOp _ _ _)
  have second : operand2Answer (fetchedInstr s) (fetch s).2 = (fetchedBytes s).getD 2 0 := operand2Answer_decodeOp _ _ _ _
  rw [first, second]
  rfl

/-- The first operand fetch is the call that the table says (the opcode fetch is call 0). -/
theorem entries_operand1Call {i : Instr} (h : 2 ≤ i.length) (p : Port) (a : Addr) (s : State) (qs : List Request) :
    (p.entry (.read a) :: s.port.entries (operandCalls i s ++ qs))[operand1Call i]? =
      some (.read s.pc (operand1Answer i s)) := by
  have hb := Nat.ble_eq_true_of_le h
  cases i with
  | orAIndX | andAIndX | eorAIndX | cmpAIndX | adcAIndX | sbcAIndX | movAIndX | movAIndXInc | movIndXA | movIndXIncA
  | orIndXIndY | andIndXIndY | eorIndXIndY | adcIndXIndY | sbcIndXIndY | cmpIndXIndY
  | tcallV | brk | ret | reti | pushPsw | pushA | pushX | pushY | popA | popX | popY | popPsw
  | nop | movXA | movAX | movXSp | movSpX | movAY | movYA | aslA | rolA | lsrA | rorA | decA | incA | decX | incX | decY
  | incY | clrp | setp | clrc | setc | ei | di | clrv | notc | xcnA | daaA | dasA | mulYa | divYaX | sleep | stop =>
    exact absurd hb Bool.noConfusion
  | _ => rfl

/-- The second operand fetch is the call that the table says. -/
theorem entries_operand2Call {i : Instr} (h : 3 ≤ i.length) (p : Port) (a : Addr) (s : State) (qs : List Request) :
    (p.entry (.read a) :: s.port.entries (operandCalls i s ++ qs))[operand2Call i]? =
      some (.read (s.pc + 1) (operand2Answer i s)) := by
  have hb := Nat.ble_eq_true_of_le h
  cases i with
  | orAAbs | andAAbs | eorAAbs | cmpAAbs | adcAAbs | sbcAAbs | movAAbs | movXAbs | movYAbs | cmpXAbs | cmpYAbs
  | orAAbsX | andAAbsX | eorAAbsX | cmpAAbsX | adcAAbsX | sbcAAbsX | movAAbsX
  | orAAbsY | andAAbsY | eorAAbsY | cmpAAbsY | adcAAbsY | sbcAAbsY | movAAbsY
  | movAbsA | movAbsX | movAbsY | movAbsXA | movAbsYA | movDImm
  | aslAbs | rolAbs | lsrAbs | rorAbs | decAbs | incAbs
  | orDdDs | andDdDs | eorDdDs | adcDdDs | sbcDdDs | cmpDdDs | movDdDs
  | orDImm | andDImm | eorDImm | adcDImm | sbcDImm | cmpDImm
  | or1CMb | or1CNotMb | and1CMb | and1CNotMb | eor1CMb | mov1CMb | mov1MbC | not1Mb | tset1Abs | tclr1Abs
  | bbsDbitRel | bbcDbitRel | cbneDRel | cbneDXRel | dbnzDRel | jmpAbs | jmpIndAbsX | callAbs => rfl
  | _ => exact absurd hb Bool.noConfusion

/-! ### The obligations -/

/-- Settles O13: the halt loop, the opcode fetch and every instruction reach the port by calls only. -/
theorem portIsTheOnlyPath : Obligations.PortIsTheOnlyPath := by
  unfold Obligations.PortIsTheOnlyPath
  intro s t h
  obtain ⟨-, h⟩ | ⟨-, -, h⟩ := step_cases h
  · exact Holds.of_finish h ByCalls.haltLoop
  · exact ByCalls.trans s _ t (ByCalls.fetch s) (Scope.Frame.of_exec h).calls

/-- Settles O10: with no script every answer is the RAM's, and only the write of `DBNZ d,r` comes before a fetch. -/
theorem fetchedBytesAreMemory : Obligations.FetchedBytesAreMemory := by
  unfold Obligations.FetchedBytesAreMemory
  intro s hn hm
  have hu : (fetch s).2.port.answers = [] := performAll_answers_nil s.port [.read s.pc] hn
  simp only [fetchedBytes, answer_of_no_script s.port s.pc hn, upcoming_of_no_script _ _ _ hu,
    answer_portAtDbnzDisplacement (s := (fetch s).2) hm hu]
  rw [← add_one_one, ite_and]
  rfl

/-- Settles O11: the calls of the step are the opcode fetch and then those of the instruction, the operand fetches first. -/
theorem operandBytesAreFetched : Obligations.OperandBytesAreFetched := by
  unfold Obligations.OperandBytesAreFetched
  intro s t hw hs h
  obtain ⟨hh, -⟩ | ⟨-, -, h⟩ := step_cases h
  · simp [State.halted, hw, hs] at hh
  obtain ⟨qs, hp, -⟩ := exec_makes h
  have hc : ∀ n, t.port.callSince s.port n =
      (s.port.entry (.read s.pc) :: (fetch s).2.port.entries (operandCalls (fetchedInstr s) (fetch s).2 ++ qs))[n]? :=
    fun n => by rw [hp]; exact callSince_performAll s.port (.read s.pc :: _) n
  rw [fetchedBytes_eq]
  refine ⟨hc 0, fun hl => (hc _).trans (entries_operand1Call hl _ _ _ _), fun hl => (hc _).trans ?_⟩
  rw [entries_operand2Call hl, ← add_one_one]
  rfl

/-- Settles O31, from the address of a direct-page offset. -/
theorem directPageAddressing : Obligations.DirectPageAddressing := by
  unfold Obligations.DirectPageAddressing
  intro s d v r
  refine ⟨dp_toNat s d, ?_, ?_, load_run d s, store_run d v s⟩
  · rw [dp_toNat, BitVec.toNat_add]
  · rw [dp_toNat, BitVec.toNat_add]; rfl

/-- Settles O32, from the stack address as a number. -/
theorem stackPushAndPull : Obligations.StackPushAndPull := by
  unfold Obligations.StackPushAndPull
  intro s v
  have below : wordOf (s.sp + 1) Config.stackPage = BitVec.ofNat 16 (0x0100 + (s.sp.toNat + 1) % 256) := by
    rw [wordOf_stackPage, BitVec.toNat_add]; rfl
  constructor
  · rw [push_run, State.stackAddr, wordOf_stackPage, show s.sp - 1 = BitVec.ofNat 8 (s.sp.toNat + 255) by bv_omega]
  · rw [pull_run, below, show s.sp + 1 = BitVec.ofNat 8 (s.sp.toNat + 1) by bv_omega]

/-- Settles O33, one operand form at a time. -/
theorem operandFormsFindTheirAddress : Obligations.OperandFormsFindTheirAddress := by
  unfold Obligations.OperandFormsFindTheirAddress
  intro s d a r
  simp only [after_zero, after_two]
  exact ⟨rfl, rfl, rfl, rfl, rfl, rfl, rfl⟩

/-- Settles O58: the bytes not written by a sequence of calls stay, and the RAM answers a read with the byte written. -/
theorem memoryNotStoredToKeepsItsValue : Obligations.MemoryNotStoredToKeepsItsValue := by
  unfold Obligations.MemoryNotStoredToKeepsItsValue
  refine ⟨fun i s t a h ha => ?_, fun s a b v hm hn => ?_⟩
  · obtain ⟨qs, hp, hq⟩ := exec_makes h
    rw [hp]
    exact readByte_performAll _ _ a (hq ▸ ha)
  · exact ⟨wf_writeByte _ a v hm, answer_of_no_script s.port b hn, answer_perform_write hm hn a b v⟩

end Sys2Proof.Machine
end

section
/-! PROOFS. The encoding (30_encoding.md). Decoding the bytes of an instruction is proved instruction by instruction, encoding a
decoded instruction by a table over the opcode map of R73. Both turn on one fact: the operand word of `!a` or `m.b` is joined
from two bytes and cut again without dropping a bit (R77). -/

namespace Sys2Proof.Machine

/-! ### Decoding the bytes of an instruction -/

/-- Every address is joined from two bytes (R50). -/
theorem exists_bytes (a : Addr) : ∃ lo hi, a = wordOf lo hi := ⟨loByte a, hiByte a, (wordOf_loByte_hiByte a).symm⟩

/-- A well-formed `m.b` operand is cut from two bytes (R77). -/
theorem exists_bytes_of_bitOperand {a : Addr} {b : Nat} (h : (bitAddressOk a && bitIndexOk b) = true) :
    ∃ lo hi, a = mAddr (wordOf lo hi) ∧ b = mBit (wordOf lo hi) := by
  obtain ⟨ha, hb⟩ := Bool.and_eq_true_iff.1 h
  obtain ⟨lo, hi, hw⟩ := exists_bytes (mWord a b)
  rw [← mAddr_mWord a b (of_decide_eq_true ha)]
  exact ⟨lo, hi, hw ▸ ⟨rfl, (mBit_mWord a b (of_decide_eq_true hb)).symm⟩⟩

/-- Decoding undoes encoding: a word operand is cut and joined again, a bit or table index goes through its opcode field (R74),
and any other operand is a byte of the list. -/
theorem decode_encode {i : Instr} (h : i.WellFormed) (rest : List Byte) : decode (encode i ++ rest) = .ok (i, rest) := by
  cases i with
  | orAAbs a | andAAbs a | eorAAbs a | cmpAAbs a | adcAAbs a | sbcAAbs a | movAAbs a | movXAbs a | movYAbs a | cmpXAbs a
  | cmpYAbs a | orAAbsX a | andAAbsX a | eorAAbsX a | cmpAAbsX a | adcAAbsX a | sbcAAbsX a | movAAbsX a | orAAbsY a
  | andAAbsY a | eorAAbsY a | cmpAAbsY a | adcAAbsY a | sbcAAbsY a | movAAbsY a | movAbsA a | movAbsX a | movAbsY a
  | movAbsXA a | movAbsYA a | aslAbs a | rolAbs a | lsrAbs a | rorAbs a | decAbs a | incAbs a | tset1Abs a | tclr1Abs a
  | jmpAbs a | jmpIndAbsX a | callAbs a =>
    obtain ⟨lo, hi, rfl⟩ := exists_bytes a
    simp only [encode, loByte_wordOf, hiByte_wordOf]
    rfl
  | or1CMb | or1CNotMb | and1CMb | and1CNotMb | eor1CMb | mov1CMb | mov1MbC | not1Mb =>
    obtain ⟨lo, hi, rfl, rfl⟩ := exists_bytes_of_bitOperand h
    simp only [encode, mWord_fields, loByte_wordOf, hiByte_wordOf]
    rfl
  | set1Dbit b | clr1Dbit b | bbsDbitRel b | bbcDbitRel b =>
    have hb : b < 8 := of_decide_eq_true h
    interval_cases b <;> rfl
  | tcallV v =>
    have hv : v < 16 := of_decide_eq_true h
    interval_cases v <;> rfl
  | _ => rfl

/-! ### Encoding what an opcode decodes to -/

/-- Two functions of an opcode agree when their tables over the rows and columns of R73 do. Unlike `eq_of_grid` it decides no
equality, so the values may contain the operand bytes as variables. -/
theorem eq_of_opcodeTable {α : Type} {f g : Byte → α}
    (h : ((List.range 16).map fun row => (List.range 16).map fun col => f (.ofNat 8 (16 * row + col))) =
      (List.range 16).map fun row => (List.range 16).map fun col => g (.ofNat 8 (16 * row + col))) (op : Byte) :
    f op = g op := by
  have at_row := List.map_inj_left.1 h (op.toNat / 16) (List.mem_range.2 (by omega))
  have at_op := List.map_inj_left.1 at_row (op.toNat % 16) (List.mem_range.2 (by omega))
  rwa [Nat.div_add_mod, BitVec.ofNat_toNat, BitVec.setWidth_eq] at at_op

/-- What the operand bytes of a format of R71 stand for: operands of one byte each, the address `!a`, or the word of `m.b`. -/
inductive Layout where
  | bytes
  | address
  | bitWord

/-- The layout of an instruction: of the formats with two operand bytes, F_MBIT, F_DP_DP, F_IMM_DP, F_DP_REL and F_DPBIT_REL are
listed, and F_ABS is the one that is left. -/
def layoutOf : Instr → Layout
  | .or1CMb _ _ | .or1CNotMb _ _ | .and1CMb _ _ | .and1CNotMb _ _ | .eor1CMb _ _ | .mov1CMb _ _ | .mov1MbC _ _
  | .not1Mb _ _ => .bitWord
  | .orDdDs _ _ | .andDdDs _ _ | .eorDdDs _ _ | .adcDdDs _ _ | .sbcDdDs _ _ | .cmpDdDs _ _ | .movDdDs _ _
  | .movDImm _ _ | .orDImm _ _ | .andDImm _ _ | .eorDImm _ _ | .adcDImm _ _ | .sbcDImm _ _ | .cmpDImm _ _
  | .cbneDRel _ _ | .cbneDXRel _ _ | .dbnzDRel _ _ | .bbsDbitRel _ _ _ | .bbcDbitRel _ _ _ => .bytes
  | i => match i.length with
    | 3 => .address
    | _ => .bytes

/-- The operand bytes `b1`, `b2` after they were joined to the operands of a layout and cut again. -/
def Layout.recut (b1 b2 : Byte) : Layout → List Byte
  | .bytes => [b1, b2]
  | .address => [loByte (wordOf b1 b2), hiByte (wordOf b1 b2)]
  | .bitWord =>
    let m := mWord (mAddr (wordOf b1 b2)) (mBit (wordOf b1 b2))
    [loByte m, hiByte m]

/-- The check of the operands that a layout joins from `b1`, `b2`. -/
def Layout.fits (b1 b2 : Byte) : Layout → Bool
  | .bytes | .address => true
  | .bitWord => bitAddressOk (mAddr (wordOf b1 b2)) && bitIndexOk (mBit (wordOf b1 b2))

/-- Joining and cutting drops no bit. -/
theorem Layout.recut_eq (b1 b2 : Byte) (l : Layout) : l.recut b1 b2 = [b1, b2] := by
  cases l with
  | bytes => rfl
  | address => simp [recut]
  | bitWord => simp [recut, mWord_fields]

/-- A word has thirteen bits of address and three of bit index, so its fields are in their bounds. -/
theorem Layout.fits_eq (b1 b2 : Byte) (l : Layout) : l.fits b1 b2 = true := by
  cases l with
  | bytes | address => rfl
  | bitWord =>
    have := (wordOf b1 b2).isLt
    simp only [fits, Bool.and_eq_true, decide_eq_true_eq, mAddr_toNat, mBit_eq]
    omega

theorem decodeOp_length (op b1 b2 : Byte) : (decodeOp op b1 b2).length = cellAt lengthGrid 0 op :=
  eq_of_opcodeTable (f := fun op => (decodeOp op b1 b2).length) rfl op

theorem decodeOp_wellFormed (op b1 b2 : Byte) : (decodeOp op b1 b2).WellFormed := by
  have table : (decodeOp op b1 b2).check = (layoutOf (decodeOp op b1 b2)).fits b1 b2 :=
    eq_of_opcodeTable (f := fun op => (decodeOp op b1 b2).check)
      (g := fun op => (layoutOf (decodeOp op b1 b2)).fits b1 b2) rfl op
  rw [Instr.WellFormed, table, Layout.fits_eq]

theorem encode_decodeOp (op b1 b2 : Byte) :
    encode (decodeOp op b1 b2) = [op, b1, b2].take (cellAt lengthGrid 0 op) := by
  have table : encode (decodeOp op b1 b2) =
      (op :: (layoutOf (decodeOp op b1 b2)).recut b1 b2).take (cellAt lengthGrid 0 op) :=
    eq_of_opcodeTable (f := fun op => encode (decodeOp op b1 b2))
      (g := fun op => (op :: (layoutOf (decodeOp op b1 b2)).recut b1 b2).take (cellAt lengthGrid 0 op)) rfl op
  rw [table, Layout.recut_eq]

/-- What decoding answers for a list that holds an opcode: its length comes from the grid of R71 (R78). -/
theorem decode_cons (op : Byte) (rest : List Byte) :
    decode (op :: rest) =
      if rest.length + 1 < cellAt lengthGrid 0 op then .error (.truncated op)
      else .ok (decodeOp op (rest.getD 0 0) (rest.getD 1 0), rest.drop (cellAt lengthGrid 0 op - 1)) := by
  rw [← decodeOp_length op (rest.getD 0 0) (rest.getD 1 0)]
  rfl

/-! ### The instruction of a step (R72) -/

theorem length_le_three (i : Instr) : i.length ≤ 3 := by
  cases i <;> exact Nat.le_of_ble_eq_true rfl

/-- The three fetched bytes hold the whole fetched instruction. -/
theorem decode_fetchedBytes (s : State) :
    decode (fetchedBytes s) = .ok (fetchedInstr s, (fetchedBytes s).tail.drop ((fetchedInstr s).length - 1)) :=
  if_neg (Nat.not_lt.2 (length_le_three (fetchedInstr s)))

/-! ### The obligations -/

/-- Settles O6, one instruction at a time. -/
theorem decodeOfEncode : Obligations.DecodeOfEncode := by
  unfold Obligations.DecodeOfEncode
  exact fun _ rest h => decode_encode h rest

/-- Settles O7, from the tables over the 256 opcodes. -/
theorem everyOpcodeDecodesAndReencodes : Obligations.EveryOpcodeDecodesAndReencodes := by
  unfold Obligations.EveryOpcodeDecodesAndReencodes
  exact fun op b1 b2 => ⟨decodeOp_wellFormed op b1 b2, decodeOp_length op b1 b2, encode_decodeOp op b1 b2⟩

/-- Settles O5, by running the decoder on each word. -/
theorem wordsDecodeAsTheFormatsSay : Obligations.WordsDecodeAsTheFormatsSay := by
  unfold Obligations.WordsDecodeAsTheFormatsSay
  decide

/-- Settles O8, from the length that the opcode alone gives. -/
theorem decodeRejectsOnlyTruncation : Obligations.DecodeRejectsOnlyTruncation := by
  unfold Obligations.DecodeRejectsOnlyTruncation
  exact ⟨rfl, decode_cons⟩

/-- Settles O9: the fetched bytes decode to the fetched instruction, and that is the one the step runs. -/
theorem stepRunsDecodedInstruction : Obligations.StepRunsDecodedInstruction := by
  unfold Obligations.StepRunsDecodedInstruction
  refine ⟨fun s => ⟨_, _, decode_fetchedBytes s, decodeOp_wellFormed _ _ _⟩, fun s i rest hw hs h => ?_⟩
  rw [decode_fetchedBytes] at h
  cases h
  exact if_neg (by simp [hw, hs])

end Sys2Proof.Machine
end

section
/-! PROOFS. The algorithms (40_alu.md): each says its result and its flags in numbers. All additions and subtractions come down
to `adc`: `sbc` adds the complement (R92), and `adw` and `sbw` are one addition of words with a carry in, made of two byte
additions (R104, R105). -/

namespace Sys2Proof.Machine

/-! ### Bits and signs of a byte and of a word -/

theorem bit0 (v : Byte) : v.getLsbD 0 = decide (v.toNat % 2 = 1) := by
  rw [BitVec.getLsbD, Nat.testBit_zero]

theorem toNat_decide (p : Prop) [Decidable p] : (decide p).toNat = if p then 1 else 0 := by
  rw [Bool.toNat, Bool.cond_decide]

/-- A mask of bit 7 leaves something exactly when the bit is set. -/
theorem decide_and_0x80_ne_zero (v : Byte) : decide (v &&& 0x80 ≠ 0) = v.getLsbD 7 := by
  revert v; decide

/-- The complement of a signed number, one below its negation. -/
theorem toInt_not {n : Nat} (v : BitVec (n + 1)) : (~~~v).toInt = -1 - v.toInt := by
  have := v.isLt
  simp only [BitVec.toInt_eq_toNat_cond, BitVec.toNat_not]
  split <;> split <;> omega

/-- ZF and NF in numbers, when the result is known as a number. -/
theorem setZN_of_toNat {r : Byte} {n : Nat} (h : r.toNat = n) (g : Flags) :
    setZN r g = { g with zf := decide (n = 0), nf := decide (128 ≤ n) } := h ▸ setZN_eq r g

theorem setZN16_eq (v : Addr) (f : Flags) :
    setZN16 v f = { f with zf := decide (v.toNat = 0), nf := decide (32768 ≤ v.toNat) } := by
  rw [setZN16, bit15]; simp [← BitVec.toNat_inj]

/-! ### `ADC` (R91) -/

section Adc

variable (x y : Byte) (f : Flags)

theorem adc_toNat : (adc x y f).1.toNat = (x.toNat + y.toNat + f.cf.toNat) % 256 := by
  simp [adc]

/-- The carry out is the digit above the result. -/
theorem adc_cf_toNat : (adc x y f).2.cf.toNat = (x.toNat + y.toNat + f.cf.toNat) / 256 := by
  have := f.cf.toNat_le
  show (decide (255 < x.toNat + y.toNat + f.cf.toNat)).toNat = _
  rw [toNat_decide]
  split <;> omega

theorem adc_nf : (adc x y f).2.nf = decide (128 ≤ (x.toNat + y.toNat + f.cf.toNat) % 256) := by
  rw [← adc_toNat, ← bit7]; rfl

/-- Bit 4 of a sum differs from the sum of the bits 4 exactly when a carry comes out of bit 3. -/
theorem adc_hf : (adc x y f).2.hf = decide (15 < x.toNat % 16 + y.toNat % 16 + f.cf.toNat) := by
  have hsum : (adc x y f).1 = x + y + (BitVec.ofBool f.cf).setWidth 8 := by
    apply BitVec.eq_of_toNat_eq
    simp [adc_toNat]
  have hbit : (adc x y f).1.getLsbD 4 = (x.getLsbD 4 ^^ y.getLsbD 4 ^^ BitVec.carry 4 x y f.cf) := by
    rw [hsum, BitVec.getLsbD_add_add_bool (by decide), Bool.xor_assoc]
  calc (adc x y f).2.hf = (x.getLsbD 4 ^^ y.getLsbD 4 ^^ (adc x y f).1.getLsbD 4) := by simp [adc]
    _ = BitVec.carry 4 x y f.cf := by rw [hbit, ← Bool.xor_assoc, Bool.xor_self, Bool.false_xor]
    _ = _ := rfl

/-- The signs of the operands agree and the sign of the result differs exactly when the signed sum leaves the range. -/
theorem adc_vf : (adc x y f).2.vf =
    decide (x.toInt + y.toInt + f.cf.toNat < -128 ∨ 127 < x.toInt + y.toInt + f.cf.toNat) := by
  have hc := f.cf.toNat_le
  have hr := adc_toNat x y f
  have hbits : (adc x y f).2.vf =
      (!(x.getLsbD 7 ^^ y.getLsbD 7) && (x.getLsbD 7 ^^ (adc x y f).1.getLsbD 7)) := by
    show decide (~~~(x ^^^ y) &&& (x ^^^ (adc x y f).1) &&& 0x80 ≠ 0) = _
    rw [decide_and_0x80_ne_zero]; simp
  rw [hbits, bit7, bit7, bit7, BitVec.toInt_eq_toNat_cond, BitVec.toInt_eq_toNat_cond, Bool.eq_iff_iff]
  by_cases hx : 128 ≤ x.toNat <;> by_cases hy : 128 ≤ y.toNat <;> simp [hx, hy] <;> omega

/-- The flags after `ADC`, with the frame. -/
theorem adc_flags : (adc x y f).2 =
    { f with
      cf := decide (255 < x.toNat + y.toNat + f.cf.toNat)
      zf := decide ((x.toNat + y.toNat + f.cf.toNat) % 256 = 0)
      hf := decide (15 < x.toNat % 16 + y.toNat % 16 + f.cf.toNat)
      vf := decide (x.toInt + y.toInt + f.cf.toNat < -128 ∨ 127 < x.toInt + y.toInt + f.cf.toNat)
      nf := decide (128 ≤ (x.toNat + y.toNat + f.cf.toNat) % 256) } := by
  rw [← adc_hf, ← adc_vf, ← adc_nf]; rfl

end Adc

/-! ### `SBC` (R92) -/

section Sbc

variable (x y : Byte) (f : Flags)

theorem sbc_eq_adc_not : sbc x y f = adc x (~~~y) f := congrArg (adc x · f) BitVec.xor_allOnes

theorem sbc_toNat : (sbc x y f).1.toNat = (x.toNat + 512 - y.toNat - (1 - f.cf.toNat)) % 256 := by
  have := f.cf.toNat_le
  rw [sbc_eq_adc_not, adc_toNat, BitVec.toNat_not]
  omega

/-- The flags of `ADC` at the complement, which is 255 - y, and -1 - y as a signed number. -/
theorem sbc_flags : (sbc x y f).2 =
    { f with
      cf := decide (y.toNat + (1 - f.cf.toNat) ≤ x.toNat)
      zf := decide ((sbc x y f).1 = 0)
      hf := decide (y.toNat % 16 + (1 - f.cf.toNat) ≤ x.toNat % 16)
      vf := decide (x.toInt - y.toInt - (1 - f.cf.toNat : Nat) < -128 ∨ 127 < x.toInt - y.toInt - (1 - f.cf.toNat : Nat))
      nf := decide (128 ≤ (sbc x y f).1.toNat) } := by
  have := f.cf.toNat_le
  rw [decide_eq_zero, sbc_toNat, sbc_eq_adc_not, adc_flags]
  simp only [BitVec.toNat_not, toInt_not, Flags.mk.injEq, decide_eq_decide]
  refine ⟨?cf, ?zf, trivial, ?hf, trivial, trivial, ?vf, ?nf⟩ <;> omega

end Sbc

/-! ### Words made of two byte calls (R104, R105) -/

/-- The addition of two words with the carry of `f`: `ADC` on the low bytes, then on the high bytes, ZF of all 16 bits. -/
def adcWord (x y : Addr) (f : Flags) : Addr × Flags :=
  let lo := adc (loByte x) (loByte y) f
  let hi := adc (hiByte x) (hiByte y) lo.2
  (wordOf lo.1 hi.1, { hi.2 with zf := decide (wordOf lo.1 hi.1 = 0) })

/-- R104: `ADW` is the addition without a carry in. -/
theorem adw_eq_adcWord (x y : Addr) (f : Flags) : adw x y f = adcWord x y { f with cf := false } := rfl

theorem loByte_not (y : Addr) : loByte (~~~y) = ~~~loByte y := by
  apply BitVec.eq_of_toNat_eq
  simp only [BitVec.toNat_not, loByte_toNat]; omega

theorem hiByte_not (y : Addr) : hiByte (~~~y) = ~~~hiByte y := by
  apply BitVec.eq_of_toNat_eq
  simp only [BitVec.toNat_not, hiByte_toNat]; omega

/-- R105: `SBW` adds the complement, with a carry in. -/
theorem sbw_eq_adcWord (x y : Addr) (f : Flags) : sbw x y f = adcWord x (~~~y) { f with cf := true } := by
  simp only [sbw, adcWord, sbc_eq_adc_not, loByte_not, hiByte_not]

/-- The sign of a word is in its high byte. -/
theorem toInt_eq_bytes (w : Addr) : w.toInt = (hiByte w).toInt * 256 + (w.toNat % 256 : Nat) := by
  simp only [BitVec.toInt_eq_toNat_cond, hiByte_toNat]
  split <;> split <;> omega

section AdcWord

variable (x y : Addr) (f : Flags)

theorem adcWord_toNat : (adcWord x y f).1.toNat = (x.toNat + y.toNat + f.cf.toNat) % 65536 := by
  simp only [adcWord, wordOf_toNat, adc_toNat, adc_cf_toNat, loByte_toNat, hiByte_toNat]
  omega

/-- The flags of the high byte, whose carry in is the carry out of the low byte, are those of the word. -/
theorem adcWord_flags : (adcWord x y f).2 =
    { f with
      cf := decide (65535 < x.toNat + y.toNat + f.cf.toNat)
      zf := decide ((x.toNat + y.toNat + f.cf.toNat) % 65536 = 0)
      hf := decide (4095 < x.toNat % 4096 + y.toNat % 4096 + f.cf.toNat)
      vf := decide (x.toInt + y.toInt + f.cf.toNat < -32768 ∨ 32767 < x.toInt + y.toInt + f.cf.toNat)
      nf := decide (32768 ≤ (x.toNat + y.toNat + f.cf.toNat) % 65536) } := by
  have hz : (adcWord x y f).2.zf = decide ((x.toNat + y.toNat + f.cf.toNat) % 65536 = 0) := by
    rw [← adcWord_toNat]
    exact decide_eq_decide.2 BitVec.toNat_inj.symm
  have hx := toInt_eq_bytes x
  have hy := toInt_eq_bytes y
  rw [← hz]
  simp only [adcWord, adc_flags (hiByte x), adc_cf_toNat, loByte_toNat, hiByte_toNat, Flags.mk.injEq, decide_eq_decide]
  refine ⟨?cf, trivial, rfl, ?hf, rfl, rfl, ?vf, ?nf⟩ <;> omega

end AdcWord

/-! ### Comparisons (R93, R106) -/

theorem toNat_sub_eq {n : Nat} (x y : BitVec n) : (x - y).toNat = (x.toNat + 2 ^ n - y.toNat) % 2 ^ n := by
  rw [BitVec.toNat_sub, Nat.add_comm, Nat.add_sub_assoc (Nat.le_of_lt y.isLt)]

theorem cmp_eq (x y : Byte) (f : Flags) : cmp x y f =
    (x, { f with cf := decide (y.toNat ≤ x.toNat), zf := decide (x = y),
                 nf := decide (128 ≤ (x.toNat + 256 - y.toNat) % 256) }) := by
  rw [cmp, decide_sub_eq_zero, bit7, toNat_sub_eq]; rfl

theorem cpw_eq (v w : Addr) (f : Flags) : cpw v w f =
    (v, { f with cf := decide (w.toNat ≤ v.toNat), zf := decide (v = w),
                 nf := decide (32768 ≤ (v.toNat + 65536 - w.toNat) % 65536) }) := by
  have hz : decide (v - w = 0) = decide (v = w) := by simp [BitVec.sub_eq_iff_eq_add]
  rw [cpw, hz, bit15, toNat_sub_eq]; rfl

/-! ### Shifts, rotates and steps (R98 to R103) -/

section OneOperand

variable (x : Byte) (f : Flags)

theorem asl_toNat : (asl x f).1.toNat = x.toNat * 2 % 256 := by simp [asl, Nat.shiftLeft_eq]

theorem lsr_toNat : (lsr x f).1.toNat = x.toNat / 2 := by simp [lsr, Nat.shiftRight_eq_div_pow]

theorem rol_toNat : (rol x f).1.toNat = x.toNat * 2 % 256 + f.cf.toNat := by
  have := f.cf.toNat_le
  simp only [rol, BitVec.toNat_ofNat]
  omega

theorem ror_toNat : (ror x f).1.toNat = f.cf.toNat * 128 + x.toNat / 2 := by
  have := f.cf.toNat_le
  simp only [ror, BitVec.toNat_ofNat]
  omega

theorem inc_toNat : (inc x f).1.toNat = (x.toNat + 1) % 256 := BitVec.toNat_add x 1

theorem dec_toNat : (dec x f).1.toNat = (x.toNat + 255) % 256 := toNat_sub_eq x 1

end OneOperand

/-! ### `DIV` (R109) -/

section Div

variable (a y x : Byte) (f : Flags)

theorem div_flags : (div a y x f).2.2 =
    { f with
      hf := decide (x.toNat % 16 ≤ y.toNat % 16)
      vf := decide (x.toNat ≤ y.toNat)
      zf := decide ((div a y x f).1.toNat = 0)
      nf := decide (128 ≤ (div a y x f).1.toNat) } := by
  unfold div
  split <;> exact setZN_eq _ _

variable {a y x}

/-- The ordinary path: the quotient loses its bits above 7. -/
theorem div_ordinary (h : y.toNat < 2 * x.toNat) :
    (div a y x f).1.toNat = (y.toNat * 256 + a.toNat) / x.toNat % 256 ∧
    (div a y x f).2.1.toNat = (y.toNat * 256 + a.toNat) % x.toNat := by
  have hm : (y.toNat * 256 + a.toNat) % x.toNat < x.toNat := Nat.mod_lt _ (by omega)
  have hx := x.isLt
  simp only [div, if_pos h, BitVec.toNat_ofNat]
  omega

/-- The quirk path: the divisor is 256 - X and the quotient counts down from 255. -/
theorem div_quirk (h : 2 * x.toNat ≤ y.toNat) :
    (div a y x f).1.toNat = 255 - (y.toNat * 256 + a.toNat - x.toNat * 512) / (256 - x.toNat) ∧
    (div a y x f).2.1.toNat = x.toNat + (y.toNat * 256 + a.toNat - x.toNat * 512) % (256 - x.toNat) := by
  have hm : (y.toNat * 256 + a.toNat - x.toNat * 512) % (256 - x.toNat) < 256 - x.toNat := Nat.mod_lt _ (by omega)
  simp only [div, if_neg (Nat.not_lt.2 h), BitVec.toNat_ofNat]
  exact ⟨Nat.mod_eq_of_lt (Nat.lt_of_le_of_lt (Nat.sub_le ..) (by decide)), Nat.mod_eq_of_lt (by omega)⟩

/-- Without overflow the quotient fits into a byte, so that the ordinary path divides exactly. -/
theorem div_exact (h : y.toNat < x.toNat) :
    (div a y x f).1.toNat * x.toNat + (div a y x f).2.1.toNat = y.toNat * 256 + a.toNat ∧
    (div a y x f).2.1.toNat < x.toNat := by
  obtain ⟨hq, hm⟩ := div_ordinary (a := a) f (show y.toNat < 2 * x.toNat by omega)
  have hfits : (y.toNat * 256 + a.toNat) / x.toNat < 256 := Nat.div_lt_of_lt_mul (by omega)
  rw [hq, hm, Nat.mod_eq_of_lt hfits]
  exact ⟨Nat.div_add_mod' .., Nat.mod_lt _ (by omega)⟩

/-- Division by zero takes the quirk path with divisor 256: the quotient is the complement of Y, the remainder A. -/
theorem div_by_zero : (div a y 0 f).1.toNat = 255 - y.toNat ∧ (div a y 0 f).2.1 = a := by
  have hq : (div a y 0 f).1.toNat = 255 - (y.toNat * 256 + a.toNat) / 256 := (div_quirk f (Nat.zero_le _)).1
  have hm : (div a y 0 f).2.1.toNat = 0 + (y.toNat * 256 + a.toNat) % 256 := (div_quirk f (Nat.zero_le _)).2
  exact ⟨by omega, BitVec.eq_of_toNat_eq (by omega)⟩

end Div

/-! ### The obligations -/

/-- Settles O23: the numbers of `ADC`; HF and VF are stated as the model's own bit tests too. -/
theorem adcComputes : Obligations.AdcComputes := by
  unfold Obligations.AdcComputes
  exact fun x y f => ⟨adc_toNat x y f, rfl, rfl, rfl, adc_hf x y f, rfl, adc_vf x y f, adc_nf x y f, rfl, rfl, rfl⟩

/-- Settles O24, from the numbers of `ADC` at the complement. -/
theorem sbcComputes : Obligations.SbcComputes := by
  unfold Obligations.SbcComputes
  intro x y f
  have h := sbc_flags x y f
  exact ⟨rfl, sbc_toNat x y f, congrArg Flags.cf h, congrArg Flags.zf h, congrArg Flags.hf h, congrArg Flags.vf h,
    congrArg Flags.nf h⟩

/-- Settles O25: the comparisons from the number of a difference, the others from ZF and NF of their result. -/
theorem compareLogicAndLoadCompute : Obligations.CompareLogicAndLoadCompute := by
  unfold Obligations.CompareLogicAndLoadCompute
  intro x y v w f
  refine ⟨?cmp, ?and, ?or, ?eor, ?ld, ?cpw, ?ldw⟩
  case cmp => exact cmp_eq x y f
  case cpw => exact cpw_eq v w f
  case ldw => exact congrArg _ (setZN16_eq w f)
  all_goals exact congrArg _ (setZN_eq _ f)

/-- Settles O26: each flag set is ZF and NF of the result's number, over the bit that went into CF. -/
theorem shiftsAndStepsCompute : Obligations.ShiftsAndStepsCompute := by
  unfold Obligations.ShiftsAndStepsCompute
  intro x f
  refine ⟨⟨asl_toNat x f, ?asl⟩, ⟨lsr_toNat x f, ?lsr⟩, ⟨rol_toNat x f, ?rol⟩, ⟨ror_toNat x f, ?ror⟩,
    ⟨inc_toNat x f, setZN_of_toNat (inc_toNat x f) f⟩, ⟨dec_toNat x f, setZN_of_toNat (dec_toNat x f) f⟩,
    rfl, rfl, rfl, rfl, rfl, rfl⟩
  case asl => rw [← bit7]; exact setZN_of_toNat (asl_toNat x f) _
  case rol => rw [← bit7]; exact setZN_of_toNat (rol_toNat x f) _
  case ror => rw [← bit0]; exact setZN_of_toNat (ror_toNat x f) _
  case lsr =>
    have hn : decide (128 ≤ x.toNat / 2) = false := decide_eq_false (by omega)
    rw [← bit0, ← hn]; exact setZN_of_toNat (lsr_toNat x f) _

/-- Settles O27: `ADW` without a carry in, `SBW` with one and the complement. -/
theorem wordAddAndSubtractCompute : Obligations.WordAddAndSubtractCompute := by
  unfold Obligations.WordAddAndSubtractCompute
  intro x y f
  rw [adw_eq_adcWord, sbw_eq_adcWord]
  simp only [adcWord_toNat, adcWord_flags, BitVec.toNat_not, toInt_not, Flags.mk.injEq, decide_eq_decide, Bool.toNat_true,
    Bool.toNat_false]
  refine ⟨⟨?adw, ?adwCf, ?adwZf, trivial, ?adwHf, trivial, trivial, ?adwVf, ?adwNf⟩,
    ⟨?sbw, ?sbwCf, ?sbwZf, trivial, ?sbwHf, trivial, trivial, ?sbwVf, ?sbwNf⟩⟩ <;> omega

/-- Settles O28: the product of two bytes fits into two bytes. -/
theorem multiplyComputes : Obligations.MultiplyComputes := by
  unfold Obligations.MultiplyComputes
  intro y a f
  have hp : y.toNat * a.toNat < 256 * 256 := Nat.mul_lt_mul'' y.isLt a.isLt
  refine ⟨?_, setZN_eq _ f⟩
  simp only [mul, BitVec.toNat_ofNat]
  omega

/-- Settles O29, one path of R109 at a time. -/
theorem divideComputes : Obligations.DivideComputes := by
  unfold Obligations.DivideComputes
  exact fun a y x f => ⟨div_flags a y x f, div_ordinary f, div_quirk f, fun h => h ▸ div_by_zero f, div_exact f⟩

end Sys2Proof.Machine
end

section
/-! PROOFS. The read instructions (41_reads_basic.md, 42_reads_indirect_word.md; R120 to R196): each runs one of two executors,
`immediateRead` or `readInto`, at the algorithm, register and operand form that the tables list for it. What an instruction
does is then what its executor does (Laws/Executors.lean). -/

namespace Sys2Proof.Machine

/-! ### Which executor an instruction runs

A table cell without an instruction contradicts `h`; at a cell with one, its dispatch arm is the executor at that cell. -/

/-- R120 to R130. -/
theorem exec_eq_immediateRead {f : Alu2} {r : Reg} {mk : Byte → Instr} (h : immediateInstr f r = some mk) (v : Byte)
    (s : State) : exec (mk v) s = finish (immediateRead f r v) s := by
  cases r <;> cases f <;> cases h <;> rfl

/-- R131 to R196. An indexed form names its index register too. -/
theorem exec_eq_readInto {f : Alu2} {r : Reg} {m : Mode} {i : Instr} (h : readInstr f r m = some i) (s : State) :
    exec i s = finish (readInto f r m) s := by
  cases m with
  | direct | absolute | indirectX | indexedIndirect | indirectIndexed => cases r <;> cases f <;> cases h <;> rfl
  | directIndexed _ q | absoluteIndexed _ q => cases q <;> cases r <;> cases f <;> cases h <;> rfl

/-! ### The obligation -/

/-- Settles O34: the two tables by their executors; how an algorithm is applied and selected is by definition. -/
theorem readExecutorsResult : Obligations.ReadExecutorsResult := by
  unfold Obligations.ReadExecutorsResult
  refine ⟨?immediate, ?read, fun _ _ _ => ⟨rfl, rfl, rfl⟩, fun _ _ _ => ⟨rfl, rfl, rfl, rfl, rfl, rfl, rfl⟩⟩
  case immediate =>
    exact fun f r mk v s h =>
      (exec_eq_immediateRead h v s).trans (congrArg Host.Outcome.next (immediateRead_run f r v s))
  case read =>
    exact fun f r m i s h => (exec_eq_readInto h s).trans (congrArg Host.Outcome.next (readInto_run f r m s))

end Sys2Proof.Machine
end

section
/-! PROOFS. The `(X)+` forms and the words in the direct page (42_reads_indirect_word.md, 43_writes_modifies.md; R197 to R201,
R216, R217). `ADDW`, `SUBW` and `MOVW YA,d` run one executor, `readWord` (Laws/Executors.lean). The other four have rules of
their own without a branch or a loop, so running the rule's calls is by definition. -/

namespace Sys2Proof.Machine

/-- R198 to R200: `DirectReadWord` with any word algorithm. YA, the left operand, is as it was before the reads. -/
theorem finish_readWord (f : AluW) (d : Byte) (s : State) :
    finish (readWord f d) s =
      (let q := aluW f s.ya (wordOf (s.port.upcoming 1 (s.dp d)) (s.port.upcoming 2 (s.dp (d + 1)))) s.flags
       .next ({ s.after 1 [.read s.pc, .read (s.dp d), .idle, .read (s.dp (d + 1))] with
                a := loByte q.1, y := hiByte q.1, flags := q.2 })) :=
  congrArg Host.Outcome.next (readWord_run f d s)

/-! ### The obligations -/

/-- Settles O40: the `(X)+` forms fetch no operand byte, and the load's flags are ZF and NF of the byte's number. -/
theorem autoIncrementAndWordStoreResult : Obligations.AutoIncrementAndWordStoreResult := by
  unfold Obligations.AutoIncrementAndWordStoreResult
  refine fun d s => ⟨?load, ?store, ?storeWord⟩
  case load => rw [after_zero, ← setZN_eq]; rfl
  case store => rw [after_zero]; rfl
  case storeWord => rfl

/-- Settles O41: three forms by their executor; `CMPW` reads the word with no idle call and keeps only the flags. -/
theorem wordReadResult : Obligations.WordReadResult := by
  unfold Obligations.WordReadResult
  refine fun d s => ⟨?addw, ?subw, ?movw, ?cmpw⟩
  case addw => exact finish_readWord .adw d s
  case subw => exact finish_readWord .sbw d s
  case movw => exact finish_readWord .ldw d s
  case cmpw => rfl

end Sys2Proof.Machine
end

section
/-! PROOFS. The store and modify instructions (43_writes_modifies.md, 48_fixed_operand.md; R202 to R215, R219 to R238, R309 to
R318): each runs one executor, `storeFrom`, `modifyAt`, `oneByte` or `modifyWord`, at the register, algorithm and operand form that
the tables list for it. What an instruction does is then what its executor does (Laws/Executors.lean). -/

namespace Sys2Proof.Machine

/-! ### Which executor an instruction runs

A table cell without an instruction contradicts `h`; at a cell with one, its dispatch arm is the executor at that cell. -/

/-- R202 to R215. An indexed form names its index register too. -/
theorem exec_eq_storeFrom {r : Reg} {m : Mode} {i : Instr} (h : storeInstr r m = some i) (s : State) :
    exec i s = finish (storeFrom r m) s := by
  cases m with
  | direct | absolute | indirectX | indexedIndirect | indirectIndexed => cases r <;> cases h <;> rfl
  | directIndexed _ q | absoluteIndexed _ q => cases q <;> cases r <;> cases h <;> rfl

/-- R219 to R236: three operand forms, the indexed one by X only. -/
theorem exec_eq_modifyAt {f : Alu1} {m : Mode} {i : Instr} (h : modifyInstr f m = some i) (s : State) :
    exec i s = finish (modifyAt f m) s := by
  cases m with
  | direct | absolute => cases f <;> cases h <;> rfl
  | directIndexed _ q => cases q <;> cases f <;> cases h <;> rfl
  | absoluteIndexed | indirectX | indexedIndirect | indirectIndexed => cases f <;> cases h

/-- R309 to R318: the shifts are of A only. -/
theorem exec_eq_oneByte_applyAlu1 {f : Alu1} {r : Reg} {i : Instr} (h : impliedInstr f r = some i) (s : State) :
    exec i s = finish (oneByte 0 fun t => t.applyAlu1 f r) s := by
  cases r <;> cases f <;> cases h <;> rfl

/-! ### `DirectModifyWord` (R237, R238) -/

/-- The word `hi:lo` plus `delta`, in the two sums that the rule makes: `delta` to the low byte, then the high byte. -/
def modifiedWord (delta : Addr) (lo hi : Byte) : Addr := lo.setWidth 16 + delta + wordOf 0 hi

theorem modifyWord_run (delta : Addr) (d : Byte) (s : State) :
    (modifyWord delta d s).2 =
      (let lo := s.port.upcoming 1 (s.dp d)
       let calls := [.read s.pc, .read (s.dp d), .write (s.dp d) (loByte (lo.setWidth 16 + delta))]
       let w := modifiedWord delta lo ((s.port.performAll calls).answer (s.dp (d + 1)))
       { s.after 1 (calls ++ [.read (s.dp (d + 1)), .write (s.dp (d + 1)) (hiByte w)]) with
         flags := setZN16 w s.flags }) := rfl

theorem modifiedWord_toNat (delta : Addr) (lo hi : Byte) :
    (modifiedWord delta lo hi).toNat = (hi.toNat * 256 + lo.toNat + delta.toNat) % 65536 := by
  have h0 : (wordOf 0 hi).toNat = hi.toNat * 256 := by simp [wordOf_toNat]
  simp only [modifiedWord, BitVec.toNat_add, h0, BitVec.toNat_setWidth]
  omega

/-- The low byte that is written before the high byte is known. -/
theorem loByte_setWidth_add (delta : Addr) (lo : Byte) :
    loByte (lo.setWidth 16 + delta) = BitVec.ofNat 8 (lo.toNat + delta.toNat) := by
  apply BitVec.eq_of_toNat_eq
  simp only [loByte_toNat, BitVec.toNat_add, BitVec.toNat_setWidth, BitVec.toNat_ofNat]
  omega

theorem hiByte_eq_ofNat (w : Addr) : hiByte w = BitVec.ofNat 8 (w.toNat / 256) := by
  apply BitVec.eq_of_toNat_eq
  rw [hiByte_toNat, BitVec.toNat_ofNat]
  omega

/-- DECW adds minus one, which is 65,535 modulo 65,536. -/
theorem exec_eq_modifyWord {d : Byte} {i : Instr} {delta : Nat}
    (h : (i = .incwD d ∧ delta = 1) ∨ (i = .decwD d ∧ delta = 65535)) (s : State) :
    ∃ v : Addr, v.toNat = delta ∧ exec i s = finish (modifyWord v d) s := by
  obtain ⟨rfl, rfl⟩ | ⟨rfl, rfl⟩ := h
  · exact ⟨1, rfl, rfl⟩
  · exact ⟨0xFFFF, rfl, rfl⟩

/-! ### The obligations -/

/-- Settles O35, by the executor of the stores. -/
theorem storeExecutorsResult : Obligations.StoreExecutorsResult := by
  unfold Obligations.StoreExecutorsResult
  exact fun r m i s h => (exec_eq_storeFrom h s).trans (congrArg Host.Outcome.next (storeFrom_run r m s))

/-- Settles O36: the two tables by their executors. The dummy read changes no register, whichever one it is. -/
theorem modifyExecutorsResult : Obligations.ModifyExecutorsResult := by
  unfold Obligations.ModifyExecutorsResult
  refine ⟨?memory, ?register⟩
  case memory =>
    exact fun f m i s h => (exec_eq_modifyAt h s).trans (congrArg Host.Outcome.next (modifyAt_run f m s))
  case register =>
    intro f r i s h
    rw [exec_eq_oneByte_applyAlu1 h, finish, oneByte_run]
    cases r <;> rfl

/-- Settles O42: the two sums of the rule are one sum of numbers, and the low byte does not wait for the high byte. -/
theorem wordModifyResult : Obligations.WordModifyResult := by
  unfold Obligations.WordModifyResult
  intro d s i delta h
  obtain ⟨v, rfl, he⟩ := exec_eq_modifyWord h s
  constructor
  · simp only [he, finish, modifyWord_run, loByte_setWidth_add, hiByte_eq_ofNat, setZN16_eq, modifiedWord_toNat]
  · rw [BitVec.toNat_ofNat]
    omega

end Sys2Proof.Machine
end

section
/-! PROOFS. The memory-to-memory instructions (44_memory_to_memory.md; R239 to R257) and `MOV d,#i` (R218): those that modify
their destination run one executor, `modifyDirectDirect`, `modifyDirectImmediate` or `modifyIndirect`, at the algorithm that the
tables list for them, and what they do is what their executor does (Laws/Executors.lean). The compares and the two `MOV` have rules
of their own without a branch or a loop, so running the rule's calls is by definition, once PC is written as the fetches leave it. -/

namespace Sys2Proof.Machine

/-! ### Which executor an instruction runs

A table cell without an instruction contradicts `h`; at a cell with one, its dispatch arm is the executor at that cell. -/

/-- R239 to R243. -/
theorem exec_eq_modifyDirectDirect {f : Alu2} {mk : Byte → Byte → Instr} (h : directDirectInstr f = some mk) (dd ds : Byte)
    (s : State) : exec (mk dd ds) s = finish (modifyDirectDirect f dd ds) s := by
  cases f <;> cases h <;> rfl

/-- R246 to R250. -/
theorem exec_eq_modifyDirectImmediate {f : Alu2} {mk : Byte → Byte → Instr} (h : directImmediateInstr f = some mk)
    (d i : Byte) (s : State) : exec (mk d i) s = finish (modifyDirectImmediate f d i) s := by
  cases f <;> cases h <;> rfl

/-- R252 to R256. -/
theorem exec_eq_modifyIndirect {f : Alu2} {i : Instr} (h : indirectPairInstr f = some i) (s : State) :
    exec i s = finish (modifyIndirect f) s := by
  cases f <;> cases h <;> rfl

/-! ### The obligations -/

/-- Settles O37: the five modifying forms by their executor; `CMP` ends in an idle call, `MOV` reads one byte less. -/
theorem directDirectResult : Obligations.DirectDirectResult := by
  unfold Obligations.DirectDirectResult
  refine fun dd ds s => ⟨fun f mk h => ?modify, ?cmp, ?mov⟩
  case modify =>
    rw [after_two]
    exact (exec_eq_modifyDirectDirect h dd ds s).trans (congrArg Host.Outcome.next (modifyDirectDirect_run f dd ds s))
  case cmp => rw [after_two]; rfl
  case mov => rw [after_two]; rfl

/-- Settles O38: the five modifying forms by their executor; `CMP` ends in an idle call, `MOV` in a write after its dummy read. -/
theorem directImmediateResult : Obligations.DirectImmediateResult := by
  unfold Obligations.DirectImmediateResult
  refine fun d i s => ⟨fun f mk h => ?modify, ?cmp, ?mov⟩
  case modify =>
    rw [after_two]
    exact (exec_eq_modifyDirectImmediate h d i s).trans (congrArg Host.Outcome.next (modifyDirectImmediate_run f d i s))
  case cmp => rw [after_two]; rfl
  case mov => rw [after_two]; rfl

/-- Settles O39: the five modifying forms by their executor; `CMP` ends in an idle call. No form fetches an operand byte. -/
theorem indirectPairResult : Obligations.IndirectPairResult := by
  unfold Obligations.IndirectPairResult
  refine fun s => ⟨fun f i h => ?modify, ?cmp⟩
  case modify =>
    rw [after_zero]
    exact (exec_eq_modifyIndirect h s).trans (congrArg Host.Outcome.next (modifyIndirect_run f s))
  case cmp => rw [after_zero]; rfl

end Sys2Proof.Machine
end

section
/-! PROOFS. The bit instructions (45_bit.md; R258 to R271) and the branches that test a byte (46_branch_jump.md; R282 to R285). Six
forms of `m.b` replace the carry by a function of itself and the byte read. A bit write is `setBit`, whose bits are known
(`getLsbD_setBit`), and every branch here ends in `branchIf` after the calls of its rule. -/

namespace Sys2Proof.Machine

/-! ### The `m.b` forms -/

/-- The `m.b` forms that put a function of CF and the byte read into CF, without an idle call (R260, R261, R263). -/
theorem finish_loadBitByte_changeCarry (f : Byte → Bool → Bool) (a : Addr) (s : State) :
    finish (do let v ← loadBitByte a; changeCarry (f v)) s =
      .next { s.after 2 [.read s.pc, .read (s.pc + 1), .read a] with
              flags := { s.flags with cf := f (s.port.upcoming 2 a) s.flags.cf } } := by
  rw [after_two]; rfl

/-- The same with an idle call before the change (R258, R259, R262). -/
theorem finish_loadBitByte_idle_changeCarry (f : Byte → Bool → Bool) (a : Addr) (s : State) :
    finish (do let v ← loadBitByte a; idle; changeCarry (f v)) s =
      .next { s.after 2 [.read s.pc, .read (s.pc + 1), .read a, .idle] with
              flags := { s.flags with cf := f (s.port.upcoming 2 a) s.flags.cf } } := by
  rw [after_two]; rfl

/-- Writing the complement of a bit into it flips that one bit (R265). -/
theorem setBit_not_getLsbD (v : Byte) {b : Nat} (hb : b < 8) : setBit v b (!v.getLsbD b) = v ^^^ ((1 : Byte) <<< b) := by
  apply BitVec.eq_of_getLsbD_eq
  intro k hk
  rw [getLsbD_setBit v b k _ hb hk, BitVec.getLsbD_xor, bit_of_one_shifted k b hk hb]
  by_cases h : k = b <;> simp [h]

/-! ### The test forms -/

/-- ZF and NF of a difference, in numbers (R268, R269). -/
theorem setZN_sub (x y : Byte) (f : Flags) :
    setZN (x - y) f = { f with zf := decide (x = y), nf := decide (128 ≤ (x.toNat + 256 - y.toNat) % 256) } := by
  rw [setZN, decide_sub_eq_zero, bit7, toNat_sub_eq]; rfl

/-- R268, R269: `testAndModify` with ZF and NF in numbers. -/
theorem finish_testAndModify (f : Byte → Byte → Byte) (a : Addr) (s : State) :
    finish (testAndModify f a) s =
      (let u := s.port.upcoming 2 a
       .next { s.after 2 [.read s.pc, .read (s.pc + 1), .read a, .read a, .write a (f u s.a)] with
               flags := { s.flags with
                 zf := decide (s.a = u), nf := decide (128 ≤ (s.a.toNat + 256 - u.toNat) % 256) } }) := by
  rw [finish, testAndModify_run, setZN_sub, add_one_one]; rfl

/-! ### The branches -/

/-- A rule that comes to the branch's tail at `next`, after the calls `rs` from `s`, ends as a branch from `s` (R272). -/
theorem finish_eq_branched {p : Prog Unit} {s₀ s : State} {rs : List Request} {next : Addr} {taken : Bool} {r : Byte}
    (hp : p s₀ = branchIf taken r { s with pc := next, port := s.port.performAll rs }) :
    finish p s₀ = .next (s.branched rs next taken r) := by
  rw [finish, hp, branchIf_run]
  cases taken with
  | false => rfl
  | true => rw [State.branched, performAll_append]; rfl

theorem bne_eq_decide_ne (x y : Byte) : (x != y) = decide (x ≠ y) :=
  Bool.eq_iff_iff.2 (bne_iff_ne.trans decide_eq_true_iff.symm)

/-- A byte counted down is zero exactly when it was one. -/
theorem sub_one_bne_zero (v : Byte) : (v - 1 != 0) = decide (v ≠ 1) :=
  (bne_eq_decide_ne _ _).trans (decide_eq_decide.2 (not_congr sub_eq_zero))

/-! ### The obligations -/

/-- Settles O43: six forms change CF by their function of it, `MOV1` and `NOT1` write `setBit` of the byte back. -/
theorem carryBitResult : Obligations.CarryBitResult := by
  unfold Obligations.CarryBitResult
  refine fun a b s _ hb => ⟨?or1, ?or1Not, ?and1, ?and1Not, ?eor1, ?mov1, ?mov1Write, ?not1⟩
  case or1 => exact finish_loadBitByte_idle_changeCarry (fun v c => c || v.getLsbD b) a s
  case or1Not => exact finish_loadBitByte_idle_changeCarry (fun v c => c || !v.getLsbD b) a s
  case and1 => exact finish_loadBitByte_changeCarry (fun v c => c && v.getLsbD b) a s
  case and1Not => exact finish_loadBitByte_changeCarry (fun v c => c && !v.getLsbD b) a s
  case eor1 => exact finish_loadBitByte_idle_changeCarry (fun v c => c ^^ v.getLsbD b) a s
  case mov1 => exact finish_loadBitByte_changeCarry (fun v _ => v.getLsbD b) a s
  case mov1Write => rw [after_two]; rfl
  case not1 => rw [← setBit_not_getLsbD _ hb, after_two]; rfl

/-- Settles O44: two executors, `setBit` at true and at false, and the flags of A - v in numbers. -/
theorem bitSetAndTestResult : Obligations.BitSetAndTestResult := by
  unfold Obligations.BitSetAndTestResult
  refine fun d b a s hb => ⟨?set1, ?clr1, ?tset1, ?tclr1, fun k hk => ⟨?bitsSet, ?bitsCleared⟩⟩
  case set1 => exact congrArg Host.Outcome.next (writeDirectBit_run b true d s)
  case clr1 => exact congrArg Host.Outcome.next (writeDirectBit_run b false d s)
  case tset1 => exact finish_testAndModify (fun v acc => v ||| acc) a s
  case tclr1 => exact finish_testAndModify (fun v acc => v &&& ~~~acc) a s
  case bitsSet => exact getLsbD_setBit _ b k true hb hk
  case bitsCleared => exact getLsbD_setBit _ b k false hb hk

/-- Settles O46: two forms by `branchOnBit`; the others reach `branchIf` by running their calls. -/
theorem testAndBranchResult : Obligations.TestAndBranchResult := by
  unfold Obligations.TestAndBranchResult
  intro d r b s _
  rw [← add_one_one]
  refine ⟨?bbs, ?bbc, ?cbne, ?cbneX, ?dbnz, ?dbnzY⟩
  case bbs => rw [← beq_true (BitVec.getLsbD _ b)]; exact congrArg Host.Outcome.next (branchOnBit_run b true d r s)
  case bbc => rw [← beq_false (BitVec.getLsbD _ b)]; exact congrArg Host.Outcome.next (branchOnBit_run b false d r s)
  case cbne => rw [← bne_eq_decide_ne]; exact finish_eq_branched rfl
  case cbneX => rw [← bne_eq_decide_ne]; exact finish_eq_branched rfl
  case dbnz => rw [← sub_one_bne_zero]; exact finish_eq_branched rfl
  case dbnzY => rw [← sub_one_bne_zero]; exact finish_eq_branched rfl

end Sys2Proof.Machine
end

section
/-! PROOFS. The branches on a flag (46_branch_jump.md; R272 to R281), the jumps (R286, R287) and the calls (47_call_stack.md;
R288 to R290). The branches run one executor, `branchOn`, at their condition. A jump or a call has no branch and no loop, so
running its calls is by definition, once the stack and the target are written as the machine computes them. -/

namespace Sys2Proof.Machine

/-! ### The branches on a flag -/

/-- R273 to R281: the executor at the condition `cond`. -/
theorem finish_branchOn (cond : Flags → Bool) (r : Byte) (s : State) :
    finish (branchOn cond r) s = .next (s.branched [.read s.pc] (s.pc + 1) (cond s.flags) r) :=
  congrArg Host.Outcome.next (branchOn_run cond r s)

/-- R76: the sum of the next instruction's address and the signed displacement, modulo 65,536. -/
theorem branchTarget_toNat (s : State) (r : Byte) :
    ((s.branchTarget r).toNat : Int) = ((s.pc.toNat : Int) + r.toInt) % 65536 := by
  have hr : ((r.signExtend 16).toNat : Int) = r.toInt % 65536 := by
    rw [BitVec.signExtend, BitVec.toNat_ofInt]
    exact Int.toNat_of_nonneg (Int.emod_nonneg _ (by decide))
  rw [State.branchTarget, BitVec.toNat_add, Int.natCast_emod, Int.natCast_add, hr]
  exact Int.add_emod_emod ..

/-- A displacement byte up to 0x7F counts up, one from 0x80 counts down from 256 (R76). -/
theorem displacement_toInt (r : Byte) :
    r.toInt = if r.toNat ≤ 0x7F then (r.toNat : Int) else (r.toNat : Int) - 256 := by
  rw [BitVec.toInt_eq_toNat_cond]
  split <;> split <;> omega

/-! ### The targets of `PCALL` and `TCALL` -/

/-- R289: the target page is 0xFF. -/
theorem wordOf_pcallPage (u : Byte) : wordOf u Config.pcallPage = 0xFF00 + BitVec.setWidth 16 u := by
  apply BitVec.eq_of_toNat_eq
  rw [wordOf_toNat, BitVec.toNat_add, BitVec.toNat_setWidth]
  show 0xFF * 256 + u.toNat = (0xFF00 + u.toNat % 65536) % 65536
  omega

/-- R290: no slot of the call table lies below address 0. -/
theorem tableSlot_eq_ofNat {v : Nat} (hv : v < 16) : tableSlot v = BitVec.ofNat 16 (0xFFDE - 2 * v) := by
  apply BitVec.eq_of_toNat_eq
  rw [tableSlot, BitVec.toNat_sub, BitVec.toNat_ofNat, BitVec.toNat_ofNat]
  show (65536 - 2 * v % 65536 + 0xFFDE) % 65536 = _
  omega

/-! ### The obligations -/

/-- Settles O45: nine conditions of one executor, and the branch target in numbers. -/
theorem conditionalBranchResult : Obligations.ConditionalBranchResult := by
  unfold Obligations.ConditionalBranchResult
  refine ⟨fun r s => ⟨?bpl, ?bmi, ?bvc, ?bvs, ?bcc, ?bcs, ?bne, ?beq, ?bra⟩,
    fun r s => ⟨branchTarget_toNat s r, displacement_toInt r⟩⟩
  case bpl => exact finish_branchOn (fun f => !f.nf) r s
  case bmi => exact finish_branchOn (fun f => f.nf) r s
  case bvc => exact finish_branchOn (fun f => !f.vf) r s
  case bvs => exact finish_branchOn (fun f => f.vf) r s
  case bcc => exact finish_branchOn (fun f => !f.cf) r s
  case bcs => exact finish_branchOn (fun f => f.cf) r s
  case bne => exact finish_branchOn (fun f => !f.zf) r s
  case beq => exact finish_branchOn (fun f => f.zf) r s
  case bra => exact finish_branchOn (fun _ => true) r s

/-- Settles O47: the jumps by running their calls; the calls likewise, with the two pushes, the return address and the target as
the machine computes them. -/
theorem jumpAndCallResult : Obligations.JumpAndCallResult := by
  unfold Obligations.JumpAndCallResult
  refine fun a u v s hv => ⟨?jmp, ?jmpIndirect, ?call, ?pcall, ?tcall⟩
  case jmp => rfl
  case jmpIndirect => rfl
  case call => rw [stackAddrAt_zero, ← sub_one_one, ← add_one_one]; rfl
  case pcall => rw [stackAddrAt_zero, ← sub_one_one, ← wordOf_pcallPage]; rfl
  case tcall => rw [stackAddrAt_zero, ← sub_one_one, ← tableSlot_eq_ofNat hv]; rfl

end Sys2Proof.Machine
end

section
/-! PROOFS. `BRK`, `RET`, `RETI`, the pushes and the pulls (47_call_stack.md; R291 to R301). None of them has a branch or a loop, so
running the calls is by definition, once the stack addresses and S are written as the machine steps through them. The four
pushes run one executor, `pushOf`, and three of the pulls another, `popInto`. -/

namespace Sys2Proof.Machine

/-- R294 to R297: the pushed value is that of `v` after the dummy read; the idle call follows the write. -/
theorem finish_pushOf (v : State → Byte) (s : State) :
    finish (pushOf v) s =
      .next { s.after 0 [.read s.pc, .write (s.stackAddrAt 0) (v { s with port := s.port.perform (.read s.pc) }), .idle] with
              sp := s.sp - 1 } := by
  rw [finish, pushOf_run, stackAddrAt_zero, after_zero]

/-- R298 to R300: the idle call is before the read, and no flag is written. -/
theorem finish_popInto (r : Reg) (s : State) :
    finish (popInto r) s =
      .next (State.setReg
        { s.after 0 [.read s.pc, .idle, .read (wordOf (s.sp + 1) Config.stackPage)] with sp := s.sp + 1 }
        r (s.port.upcoming 1 (wordOf (s.sp + 1) Config.stackPage))) := by
  rw [finish, popInto_run, after_zero]

/-! ### The obligations -/

/-- Settles O48: the break entry after the dummy read (`enterBreak_run`), S counted down three times. -/
theorem breakEntryResult : Obligations.BreakEntryResult := by
  unfold Obligations.BreakEntryResult
  intro s
  rw [stackAddrAt_zero, State.stackAddrAt, State.stackAddrAt, ← sub_one_one, ← sub_one_one_one]
  exact congrArg Host.Outcome.next (congrArg Prod.snd (enterBreak_run { s with port := s.port.perform (.read s.pc) }))

/-- Settles O49: the pulls of `RET` and of `RETI` (`returnFromBreak_run`) in page 1, S counted up once for each. -/
theorem returnResult : Obligations.ReturnResult := by
  unfold Obligations.ReturnResult
  intro s
  simp only [← wordOf_stackPage, ← byte_add_one_one, ← byte_add_one_one_one]
  constructor
  case left => rfl
  case right =>
    exact congrArg Host.Outcome.next
      (congrArg Prod.snd (returnFromBreak_run { s with port := s.port.performAll [.read s.pc, .idle] }))

/-- Settles O52: four pushes of one executor, three pulls of another, and `POP PSW`, which pulls into the flags. -/
theorem pushAndPopResult : Obligations.PushAndPopResult := by
  unfold Obligations.PushAndPopResult
  intro s
  simp only [← wordOf_stackPage]
  refine ⟨?pushPsw, ?pushA, ?pushX, ?pushY, ?popA, ?popX, ?popY, ?popPsw⟩
  case pushPsw => exact finish_pushOf (fun s => packPsw s.flags) s
  case pushA => exact finish_pushOf State.a s
  case pushX => exact finish_pushOf State.x s
  case pushY => exact finish_pushOf State.y s
  case popA => exact finish_popInto .a s
  case popX => exact finish_popInto .x s
  case popY => exact finish_popInto .y s
  case popPsw => rw [after_zero]; rfl

end Sys2Proof.Machine
end

section
/-! PROOFS. The instructions without a memory operand (48_fixed_operand.md; R302 to R308, R319 to R331). All run one executor,
`oneByte`: the dummy read, some idle calls, then a change of registers and flags. The decimal adjustments are taken to numbers
first; that they are decimal is then a fact about the sums and differences of digits (R328, R329). -/

namespace Sys2Proof.Machine

/-- R302 to R331: the calls of the one-byte shape, then its change. -/
theorem finish_oneByte (n : Nat) (f : State → State) (s : State) :
    finish (oneByte n f) s = .next (f (s.after 0 (.read s.pc :: List.replicate n .idle))) := by
  rw [finish, oneByte_run, after_zero]

/-! ### The numbers of `XCN`, `DAA` and `DAS` (R327 to R329) -/

theorem xcn_toNat (a : Byte) (f : Flags) : (xcn a f).1.toNat = a.toNat % 16 * 16 + a.toNat / 16 := by
  simp only [xcn]
  rw [BitVec.toNat_append, ← Nat.shiftLeft_add_eq_or_of_lt (by omega), Nat.shiftLeft_eq]
  simp [Nat.shiftRight_eq_div_pow]
  omega

theorem xcn_eq_ofNat (a : Byte) (f : Flags) : (xcn a f).1 = BitVec.ofNat 8 (a.toNat % 16 * 16 + a.toNat / 16) := by
  rw [← xcn_toNat a f, BitVec.ofNat_toNat, BitVec.setWidth_eq]

theorem xcn_xcn (a : Byte) (f g : Flags) : (xcn (xcn a f).1 g).1 = a := by
  apply BitVec.eq_of_toNat_eq
  rw [xcn_toNat, xcn_toNat]
  omega

/-- A correction that is made or not, as a number. -/
theorem ite_add_toNat (c : Bool) (v k : Byte) :
    (if c then v + k else v).toNat = if c then (v.toNat + k.toNat) % 256 else v.toNat := by
  cases c
  · rfl
  · exact BitVec.toNat_add v k

theorem ite_sub_toNat (c : Bool) (v k : Byte) :
    (if c then v - k else v).toNat = if c then (v.toNat + 256 - k.toNat) % 256 else v.toNat := by
  cases c
  · rfl
  · exact toNat_sub_eq v k

/-- The number that `DAA` makes of A (R328). -/
def daaNat (n : Nat) (c h : Bool) : Nat :=
  let n1 := if c || decide (0x99 < n) then (n + 0x60) % 256 else n
  if h || decide (9 < n1 % 16) then (n1 + 0x06) % 256 else n1

/-- The number that `DAS` makes of A (R329). -/
def dasNat (n : Nat) (c h : Bool) : Nat :=
  let n1 := if !c || decide (0x99 < n) then (n + 256 - 0x60) % 256 else n
  if !h || decide (9 < n1 % 16) then (n1 + 256 - 0x06) % 256 else n1

theorem daa_toNat (a : Byte) (f : Flags) : (daa a f).1.toNat = daaNat a.toNat f.cf f.hf := by
  simp only [daa, daaNat, ite_add_toNat]
  rfl

theorem das_toNat (a : Byte) (f : Flags) : (das a f).1.toNat = dasNat a.toNat f.cf f.hf := by
  simp only [das, dasNat, ite_sub_toNat]
  rfl

theorem daa_eq (a : Byte) (f : Flags) : daa a f =
    (BitVec.ofNat 8 (daaNat a.toNat f.cf f.hf),
     { f with
       cf := if f.cf || decide (0x99 < a.toNat) then true else f.cf
       zf := decide (daaNat a.toNat f.cf f.hf = 0)
       nf := decide (128 ≤ daaNat a.toNat f.cf f.hf) }) := by
  rw [← daa_toNat, BitVec.ofNat_toNat, BitVec.setWidth_eq]
  exact congrArg _ (setZN_eq _ _)

theorem das_eq (a : Byte) (f : Flags) : das a f =
    (BitVec.ofNat 8 (dasNat a.toNat f.cf f.hf),
     { f with
       cf := if !f.cf || decide (0x99 < a.toNat) then false else f.cf
       zf := decide (dasNat a.toNat f.cf f.hf = 0)
       nf := decide (128 ≤ dasNat a.toNat f.cf f.hf) }) := by
  rw [← das_toNat, BitVec.ofNat_toNat, BitVec.setWidth_eq]
  exact congrArg _ (setZN_eq _ _)

theorem daa_cf (a : Byte) (f : Flags) : (daa a f).2.cf = (f.cf || decide (0x99 < a.toNat)) := by
  rw [daa_eq]
  cases f.cf <;> simp

theorem das_cf (a : Byte) (f : Flags) : (das a f).2.cf = (f.cf && !decide (0x99 < a.toNat)) := by
  rw [das_eq]
  cases f.cf <;> simp

/-! ### Packed BCD -/

/-- A number below 100 in packed BCD. -/
def bcdNat (n : Nat) : Nat := n / 10 * 16 + n % 10

theorem toNat_bcdNat_digits {h l : Nat} (hh : h < 10) (hl : l < 10) :
    (BitVec.ofNat 8 (bcdNat (h * 10 + l))).toNat = h * 16 + l := by
  rw [BitVec.toNat_ofNat, bcdNat]
  omega

/-- `h` is the sum of the high digits, `l` that of the low digits with the carry in: `DAA` makes the decimal sum and its carry
of the binary sum and the two carries that `ADC` gives. -/
theorem daaNat_digitSums : ∀ h < 19, ∀ l < 20,
    daaNat ((h * 16 + l) % 256) (decide (255 < h * 16 + l)) (decide (15 < l)) = bcdNat ((h * 10 + l) % 100) ∧
    (decide (255 < h * 16 + l) || decide (0x99 < (h * 16 + l) % 256)) = decide (100 ≤ h * 10 + l) := by
  decide

/-- `h` is the difference of the high digits plus 9, `l` that of the low digits plus 9 and CF: the same for `DAS` and `SBC`. -/
theorem dasNat_digitDifferences : ∀ h < 19, ∀ l < 20,
    dasNat ((h * 16 + l + 0x66) % 256) (decide (0x9A ≤ h * 16 + l)) (decide (10 ≤ l)) = bcdNat ((h * 10 + l) % 100) ∧
    (decide (0x9A ≤ h * 16 + l) && !decide (0x99 < (h * 16 + l + 0x66) % 256)) = decide (100 ≤ h * 10 + l) := by
  decide

section

variable {x y : Byte} {h₁ l₁ h₂ l₂ : Nat} (hx : x.toNat = h₁ * 16 + l₁) (hy : y.toNat = h₂ * 16 + l₂)
  (hh₁ : h₁ < 10) (hl₁ : l₁ < 10) (hh₂ : h₂ < 10) (hl₂ : l₂ < 10) (f : Flags)

include hx hy hh₁ hl₁ hh₂ hl₂

/-- `DAA` after `ADC` of the bytes with the digits `h₁ l₁` and `h₂ l₂` (R91, R328). -/
theorem daa_adc {n : Nat} (hn : n = h₁ * 10 + l₁ + (h₂ * 10 + l₂) + f.cf.toNat) :
    (daa (adc x y f).1 (adc x y f).2).1 = BitVec.ofNat 8 (bcdNat (n % 100)) ∧
    (daa (adc x y f).1 (adc x y f).2).2.cf = decide (100 ≤ n) := by
  have hc := f.cf.toNat_le
  obtain ⟨result, carry⟩ := daaNat_digitSums (h₁ + h₂) (by omega) (l₁ + l₂ + f.cf.toNat) (by omega)
  have sum : x.toNat + y.toNat + f.cf.toNat = (h₁ + h₂) * 16 + (l₁ + l₂ + f.cf.toNat) := by omega
  have low : x.toNat % 16 + y.toNat % 16 + f.cf.toNat = l₁ + l₂ + f.cf.toNat := by omega
  have total : n = (h₁ + h₂) * 10 + (l₁ + l₂ + f.cf.toNat) := by omega
  rw [daa_cf, daa_eq, adc_toNat, adc_flags, total]
  simp only [sum, low, result, carry, and_self]

/-- `DAS` after `SBC` of the same bytes (R92, R329). -/
theorem das_sbc {n : Nat} (hn : n = h₁ * 10 + l₁ + 99 + f.cf.toNat - (h₂ * 10 + l₂)) :
    (das (sbc x y f).1 (sbc x y f).2).1 = BitVec.ofNat 8 (bcdNat (n % 100)) ∧
    (das (sbc x y f).1 (sbc x y f).2).2.cf = decide (100 ≤ n) := by
  have hc := f.cf.toNat_le
  obtain ⟨result, carry⟩ :=
    dasNat_digitDifferences (h₁ + 9 - h₂) (by omega) (l₁ + 9 + f.cf.toNat - l₂) (by omega)
  have difference : (x.toNat + 512 - y.toNat - (1 - f.cf.toNat)) % 256 =
      ((h₁ + 9 - h₂) * 16 + (l₁ + 9 + f.cf.toNat - l₂) + 0x66) % 256 := by omega
  have noBorrow : y.toNat + (1 - f.cf.toNat) ≤ x.toNat ↔ 0x9A ≤ (h₁ + 9 - h₂) * 16 + (l₁ + 9 + f.cf.toNat - l₂) := by omega
  have noHalfBorrow : y.toNat % 16 + (1 - f.cf.toNat) ≤ x.toNat % 16 ↔ 10 ≤ l₁ + 9 + f.cf.toNat - l₂ := by omega
  have total : n = (h₁ + 9 - h₂) * 10 + (l₁ + 9 + f.cf.toNat - l₂) := by omega
  rw [das_cf, das_eq, sbc_toNat, sbc_flags, total]
  simp only [difference, noBorrow, noHalfBorrow, result, carry, and_self]

end

/-! ### The obligations -/

/-- Settles O53: one dummy read, then the copy; ZF and NF of the copied byte's number. -/
theorem transferResult : Obligations.TransferResult := by
  unfold Obligations.TransferResult
  intro s
  simp only [← setZN_eq, after_zero]
  exact ⟨rfl, rfl, rfl, rfl, rfl, rfl, rfl⟩

/-- Settles O54: the change of flags after one dummy read and, for three of them, one idle call. -/
theorem flagInstructionResult : Obligations.FlagInstructionResult := by
  unfold Obligations.FlagInstructionResult
  refine fun s => ⟨?clrp, ?setp, ?clrc, ?setc, ?ei, ?di, ?clrv, ?notc⟩
  case ei => exact finish_oneByte 1 _ s
  case di => exact finish_oneByte 1 _ s
  case notc => exact finish_oneByte 1 _ s
  all_goals exact finish_oneByte 0 _ s

/-- Settles O55: five one-byte instructions; the exchange and the two adjustments in numbers. -/
theorem nibbleDecimalMulDivResult : Obligations.NibbleDecimalMulDivResult := by
  unfold Obligations.NibbleDecimalMulDivResult
  intro s
  refine ⟨?xcn, xcn_xcn _ _ _, ?daa, daa_eq _ _, ?das, das_eq _ _, ?mul, ?div⟩
  case xcn => rw [← xcn_eq_ofNat s.a s.flags, ← setZN_eq]; exact finish_oneByte 3 _ s
  case daa => exact finish_oneByte 1 _ s
  case das => exact finish_oneByte 1 _ s
  case mul => exact finish_oneByte 7 _ s
  case div => exact finish_oneByte 10 _ s

/-- Settles O30, from the sums and differences of the digits. -/
theorem decimalAdjustIsDecimal : Obligations.DecimalAdjustIsDecimal := by
  unfold Obligations.DecimalAdjustIsDecimal
  intro h₁ l₁ h₂ l₂ f hh₁ hl₁ hh₂ hl₂ bcd x y add sub
  have hc := f.cf.toNat_le
  have hx : (bcd x).toNat = h₁ * 16 + l₁ := toNat_bcdNat_digits hh₁ hl₁
  have hy : (bcd y).toNat = h₂ * 16 + l₂ := toNat_bcdNat_digits hh₂ hl₂
  obtain ⟨sum, carry⟩ := daa_adc hx hy hh₁ hl₁ hh₂ hl₂ f rfl
  obtain ⟨difference, noBorrow⟩ := das_sbc hx hy hh₁ hl₁ hh₂ hl₂ f rfl
  exact ⟨sum, carry, difference, noBorrow.trans (decide_eq_decide.2 (by omega))⟩

end Sys2Proof.Machine
end

section
/-! PROOFS. The serializer (70_reset_and_hazards.md; R433 to R436). An image is 16 bytes, one per field but two for PC. -/

namespace Sys2Proof.Machine

@[simp] theorem byteBool_boolByte (b : Bool) : byteBool (boolByte b) = b := by cases b <;> rfl

theorem boolByte_toNat (b : Bool) : (boolByte b).toNat = b.toNat := by cases b <;> rfl

theorem byteBool_eq_true (v : Byte) : byteBool v = true ↔ v ≠ 0 := decide_eq_true_iff

/-- The first 16 bytes of a buffer that has them. -/
theorem eq_ofFn_append_drop {buf : List Byte} (h : 16 ≤ buf.length) :
    buf = List.ofFn (fun k : Fin 16 => buf.getD k 0) ++ buf.drop 16 := by
  have image : buf.take 16 = List.ofFn (fun k : Fin 16 => buf.getD k 0) := by
    refine List.ext_getElem (by simp [h]) fun k hk _ => ?_
    rw [List.getElem_take, List.getElem_ofFn, List.getD_eq_getElem]
  rw [← image, List.take_append_drop]

/-- R436: each field takes the value of its byte. -/
theorem deserialize_of_length {buf : List Byte} (h : 16 ≤ buf.length) (s : State) :
    deserialize buf s =
      (true,
        { pc := wordOf (buf.getD 0 0) (buf.getD 1 0), a := buf.getD 2 0, y := buf.getD 3 0, x := buf.getD 4 0
          sp := buf.getD 5 0
          flags :=
            { cf := byteBool (buf.getD 6 0), zf := byteBool (buf.getD 7 0), iflag := byteBool (buf.getD 8 0)
              hf := byteBool (buf.getD 9 0), bf := byteBool (buf.getD 10 0), pf := byteBool (buf.getD 11 0)
              vf := byteBool (buf.getD 12 0), nf := byteBool (buf.getD 13 0) }
          wait := byteBool (buf.getD 14 0), stop := byteBool (buf.getD 15 0), port := s.port }) := by
  conv_lhs => rw [eq_ofFn_append_drop h]
  rfl

theorem deserialize_of_length_lt {buf : List Byte} (h : buf.length < 16) (s : State) : deserialize buf s = (false, s) := by
  unfold deserialize
  split
  · simp only [List.length_cons] at h
    omega
  · rfl

/-! ### The obligations -/

/-- Settles O2: the bytes of PC as the two digits of its number. -/
theorem serializeImageLayout : Obligations.SerializeImageLayout := by
  unfold Obligations.SerializeImageLayout
  intro s
  refine ⟨rfl, ?_⟩
  simp only [serialize, List.map_cons, List.map_nil, loByte_toNat, hiByte_toNat, boolByte_toNat]

/-- Settles O3: PC is joined from its two bytes and a boolean comes back from its byte. -/
theorem serializeRoundTrip : Obligations.SerializeRoundTrip := by
  unfold Obligations.SerializeRoundTrip
  intro s t rest
  simp only [serialize, List.cons_append, deserialize, wordOf_loByte_hiByte, byteBool_boolByte]

/-- Settles O4: two ranges of the length. -/
theorem deserializeAcceptsAnyImage : Obligations.DeserializeAcceptsAnyImage := by
  unfold Obligations.DeserializeAcceptsAnyImage
  refine fun buf s => ⟨fun h => deserialize_of_length_lt h s, fun h => ?_⟩
  rw [deserialize_of_length h]
  exact ⟨rfl, wordOf_toNat _ _, rfl, rfl, rfl, rfl, byteBool_eq_true _, byteBool_eq_true _, byteBool_eq_true _,
    byteBool_eq_true _, byteBool_eq_true _, byteBool_eq_true _, byteBool_eq_true _, byteBool_eq_true _, byteBool_eq_true _,
    byteBool_eq_true _, rfl⟩

end Sys2Proof.Machine
end

section
/-! PROOFS. The halt loop and the halted step (49_halt.md; R332 to R337). The loop is its port calls and nothing else
(`haltLoop_run`), so that a halted core changes its port only. -/

namespace Sys2Proof.Machine

theorem step_of_halted {s : State} (h : s.halted) : step s = finish haltLoop s := if_pos (by simpa [State.halted] using h)

theorem step_of_not_halted {s : State} (h : ¬s.halted) : step s = exec (fetchedInstr s) (fetch s).2 :=
  if_neg (by simpa [State.halted] using h)

theorem finish_haltLoop (s : State) :
    finish haltLoop s = .next { s with port := s.port.performAll (haltRequests s.pc s.port.syncs) } := by
  rw [finish, haltLoop_run]

theorem run_succ_of_next {M : Host.Core} {s t : M.State} (h : M.step s = .next t) (k : Nat) :
    M.run (k + 1) s = M.run k t := by
  rw [Host.Core.run, h]

/-! ### The calls of the loop (R334) -/

theorem haltRequests_replicate (pc : Addr) (n : Nat) (rest : List Bool) :
    haltRequests pc (List.replicate n false ++ true :: rest) =
      (List.replicate n [Request.sync, .read pc, .idle]).flatten ++ [.sync] := by
  induction n with
  | zero => rfl
  | succ n ih => exact congrArg (fun rs => .sync :: .read pc :: .idle :: rs) ih

/-- The loop uses up the answers up to the first true one. -/
theorem syncs_performAll_haltRequests (pc : Addr) (n : Nat) (rest : List Bool) (p : Port)
    (h : p.syncs = List.replicate n false ++ true :: rest) :
    (p.performAll (haltRequests pc (List.replicate n false ++ true :: rest))).syncs = rest := by
  induction n generalizing p with
  | zero => exact congrArg List.tail h
  | succ n ih => exact ih (p.performAll [.sync, .read pc, .idle]) (congrArg List.tail h)

/-! ### The obligations -/

/-- Settles O17: the sub-state is set, then the halt loop runs. -/
theorem sleepAndStopResult : Obligations.SleepAndStopResult := by
  unfold Obligations.SleepAndStopResult
  exact fun s => ⟨finish_haltLoop { s with wait := true }, finish_haltLoop { s with stop := true }⟩

/-- R335: only `SLEEP` and `STOP` write a sub-state, and they set it. -/
theorem exec_keeps_halted {i : Instr} {s t : State} (h : exec i s = .next t) :
    (s.wait = true → t.wait = true) ∧ (s.stop = true → t.stop = true) := by
  constructor
  · intro hw
    by_cases hi : i = .sleep
    · subst hi
      rw [(sleepAndStopResult s).1] at h
      cases h; rfl
    · exact ((Scope.Frame.of_exec h).wait (decide_eq_false hi)).trans hw
  · intro hs
    by_cases hi : i = .stop
    · subst hi
      rw [(sleepAndStopResult s).2] at h
      cases h; rfl
    · exact ((Scope.Frame.of_exec h).stop (decide_eq_false hi)).trans hs

/-- Settles O15, by what the halt loop does. -/
theorem haltedStepRunsTheLoop : Obligations.HaltedStepRunsTheLoop := by
  unfold Obligations.HaltedStepRunsTheLoop
  intro s h
  rw [step_of_halted h, finish_haltLoop]

/-- Settles O16, from the requests of the loop for those answers. -/
theorem haltLoopMakesNPairs : Obligations.HaltLoopMakesNPairs := by
  unfold Obligations.HaltLoopMakesNPairs
  intro s n rest h
  rw [haltLoop_run, h]
  exact ⟨by rw [haltRequests_replicate], syncs_performAll_haltRequests s.pc n rest s.port h⟩

/-- Settles O18: the halt loop writes no sub-state, and no instruction clears one. -/
theorem haltIsSticky : Obligations.HaltIsSticky := by
  unfold Obligations.HaltIsSticky
  refine ⟨fun s t h => ?_, fun _ _ _ h => exec_keeps_halted h, fun _ => ⟨rfl, rfl⟩, fun buf s h => ?_⟩
  · obtain ⟨hh, h⟩ | ⟨-, -, h⟩ := step_cases h
    · rw [finish_haltLoop] at h
      cases h
      exact ⟨id, id⟩
    · exact (exec_keeps_halted h :)
  · rw [deserialize_of_length h]
    exact ⟨rfl, rfl⟩

/-- Settles O19, by induction on the number of steps: each is one run of the halt loop. -/
theorem haltedRunsChangeOnlyThePort : Obligations.HaltedRunsChangeOnlyThePort := by
  unfold Obligations.HaltedRunsChangeOnlyThePort
  intro k s t hs h
  induction k generalizing s with
  | zero => cases h; rfl
  | succ k ih =>
    rw [run_succ_of_next (M := core) (haltedStepRunsTheLoop s hs)] at h
    exact ih { s with port := s.port.performAll (haltRequests s.pc s.port.syncs) } hs h

end Sys2Proof.Machine
end

section
/-! PROOFS. Steps without exceptions, interrupts and returns (60_exceptions.md; R400 to R406). IF is storage only (R404): the run
from `s.withIf b` is the run from `s`, carried along rule by rule, and only the packed byte holds IF. A return undoes a call
because the stack lies in page 1 and its slots are distinct (R406). -/

namespace Sys2Proof.Machine

/-! ### IF in the packed byte (R24, R404) -/

theorem getLsbD_two_packPsw (f : Flags) : (packPsw f).getLsbD 2 = f.iflag :=
  congrArg Flags.iflag (unpackPsw_packPsw f)

/-- No other bit of the packed byte depends on IF. -/
theorem getLsbD_packPsw_withIf (s : State) (b : Bool) (k : Nat) (hk : k ≠ 2) :
    (packPsw (s.withIf b).flags).getLsbD k = (packPsw s.flags).getLsbD k := by
  have h : unpackPsw (packPsw (s.withIf b).flags) = { unpackPsw (packPsw s.flags) with iflag := b } := by
    rw [unpackPsw_packPsw, unpackPsw_packPsw]; rfl
  match k with
  | 0 => exact congrArg Flags.cf h
  | 1 => exact congrArg Flags.zf h
  | 3 => exact congrArg Flags.hf h
  | 4 => exact congrArg Flags.bf h
  | 5 => exact congrArg Flags.pf h
  | 6 => exact congrArg Flags.vf h
  | 7 => exact congrArg Flags.nf h
  | k + 8 => rw [BitVec.getLsbD_of_ge _ _ (by omega), BitVec.getLsbD_of_ge _ _ (by omega)]

/-! ### The rules that do not run through by definition -/

theorem div_setIf (a y x : Byte) (f : Flags) (b : Bool) :
    div a y x { f with iflag := b } =
      ((div a y x f).1, (div a y x f).2.1, { (div a y x f).2.2 with iflag := b }) := by
  unfold div
  by_cases h : y.toNat < 2 * x.toNat
  · simp only [if_pos h]; rfl
  · simp only [if_neg h]; rfl

section

variable {s u : State} {b : Bool}

theorem branchIf_withIf (h : u = s.withIf b) (taken : Bool) (r : Byte) :
    (branchIf taken r u).2 = (branchIf taken r s).2.withIf b := by
  rw [h, branchIf_run, branchIf_run]
  cases taken <;> rfl

theorem haltLoop_withIf (h : u = s.withIf b) : (haltLoop u).2 = (haltLoop s).2.withIf b := by
  rw [h, haltLoop_run, haltLoop_run]; rfl

theorem applyDiv_withIf (h : u = s.withIf b) : u.applyDiv = s.applyDiv.withIf b := by
  subst h
  simp only [State.applyDiv, State.withIf, div_setIf]

end

/-- R404: an instruction that does not push the packed byte runs the same with another value of IF. `EI`, `DI`, `RETI` and
`POP PSW` write IF; any other leaves the value it finds. -/
theorem exec_withIf {i : Instr} {s t : State} (b : Bool) (hpush : i ≠ .pushPsw) (hbrk : i ≠ .brk) (h : exec i s = .next t) :
    ∃ c, exec i (s.withIf b) = .next (t.withIf c) := by
  cases i with
  | pushPsw => exact absurd rfl hpush
  | brk => exact absurd rfl hbrk
  | ei | di | reti | popPsw => exact ⟨t.flags.iflag, by cases h; rfl⟩
  | bbsDbitRel | bbcDbitRel | bplRel | bmiRel | bvcRel | bvsRel | bccRel | bcsRel | bneRel | beqRel | cbneDRel | cbneDXRel
  | dbnzDRel | dbnzYRel => cases h; exact ⟨b, congrArg Host.Outcome.next (branchIf_withIf (by rfl) _ _)⟩
  | sleep | stop => cases h; exact ⟨b, congrArg Host.Outcome.next (haltLoop_withIf rfl)⟩
  | divYaX => cases h; exact ⟨b, congrArg Host.Outcome.next (applyDiv_withIf rfl)⟩
  | _ => cases h; exact ⟨b, rfl⟩

/-! ### `BRK` -/

/-- What a read is answered with depends only on the script and the byte at that address. -/
theorem upcoming_congr {p q : Port} {a : Addr} (hm : p.mem.readByte a.toNat = q.mem.readByte a.toNat)
    (ha : p.answers = q.answers) (n : Nat) : p.upcoming n a = q.upcoming n a := by
  induction n generalizing p q with
  | zero => simp only [Port.upcoming, Port.answer, hm, ha]
  | succ n ih => exact ih hm (congrArg List.tail ha)

/-- The stack lies in page 1 (R49). -/
theorem stackAddrAt_ne (s : State) (k : Byte) {a : Addr} (h : 0x200 ≤ a.toNat) : a ≠ s.stackAddrAt k := by
  rintro rfl
  have := stackPage_toNat (s.sp - k)
  rw [State.stackAddrAt] at h
  omega

/-- The calls of `BRK` before it reads its target, `v` being the byte pushed last (R291). -/
def breakCalls (s : State) (v : Byte) : List Request :=
  [.read s.pc, .write (s.stackAddrAt 0) (hiByte s.pc), .write (s.stackAddrAt 1) (loByte s.pc), .write (s.stackAddrAt 2) v,
   .idle]

/-- The vector lies outside the stack, so that the target does not depend on the byte pushed. -/
theorem upcoming_breakCalls (s : State) (v w : Byte) (n : Nat) {a : Addr} (h : 0x200 ≤ a.toNat) :
    (s.port.performAll (breakCalls s v)).upcoming n a = (s.port.performAll (breakCalls s w)).upcoming n a := by
  have unwritten (x : Byte) : a ∉ writtenBy (breakCalls s x) := by
    simp [breakCalls, writtenBy, stackAddrAt_ne s _ h]
  exact upcoming_congr ((readByte_performAll _ _ a (unwritten v)).trans (readByte_performAll _ _ a (unwritten w)).symm) rfl n

/-- `BRK` with another value of IF pushes another byte; IF is cleared either way. -/
theorem exec_brk_withIf {s t : State} (b : Bool) (h : exec .brk s = .next t) :
    exec .brk (s.withIf b) =
      .next { t with
        port := s.port.performAll (breakCalls s (packPsw (s.withIf b).flags) ++ [.read 0xFFDE, .read 0xFFDF]) } := by
  have lo := upcoming_breakCalls s (packPsw (s.withIf b).flags) (packPsw s.flags) 0 (a := 0xFFDE) (by decide)
  have hi := upcoming_breakCalls s (packPsw (s.withIf b).flags) (packPsw s.flags) 1 (a := 0xFFDF) (by decide)
  rw [breakEntryResult s] at h
  cases h
  refine (breakEntryResult (s.withIf b)).trans ?_
  rw [Host.Outcome.next.injEq, State.mk.injEq]
  exact ⟨congrArg₂ wordOf lo hi, rfl, rfl, rfl, rfl, rfl, rfl, rfl, rfl⟩

/-! ### The way back (R406) -/

theorem stackAddrAt_toNat_ne (s : State) {j k : Byte} (h : j ≠ k) : (s.stackAddrAt j).toNat ≠ (s.stackAddrAt k).toNat := by
  intro e
  have hj := stackPage_toNat (s.sp - j)
  have hk := stackPage_toNat (s.sp - k)
  simp only [State.stackAddrAt] at e
  exact h (sub_right_injective (b := s.sp) (BitVec.eq_of_toNat_eq (by omega : (s.sp - j).toNat = (s.sp - k).toNat)))

/-- After `n` pushes, the slot of pull number `k` is the one of push number `n - k` (R49). -/
theorem pullSlot_eq {s t : State} {n : Byte} (h : t.sp = s.sp - n) (k : Byte) :
    BitVec.ofNat 16 (0x0100 + (t.sp + k).toNat) = s.stackAddrAt (n - k) := by
  rw [← wordOf_stackPage, h, sub_add]; rfl

theorem ByCalls.answers_nil {s t : State} (h : ByCalls s t) (hn : s.port.answers = []) : t.port.answers = [] := by
  obtain ⟨rs, h⟩ := h
  rw [h]
  exact performAll_answers_nil _ rs hn

/-- The RAM after `ret` was pushed, high byte first (R50). -/
def pushedPc (s : State) (ret : Addr) : Memory :=
  (s.port.mem.writeByte (s.stackAddrAt 0).toNat (hiByte ret)).writeByte (s.stackAddrAt 1).toNat (loByte ret)

theorem pushedPc_eq (s : State) (ret : Addr) :
    pushedPc s ret =
      (s.port.mem.writeByte s.stackAddr.toNat (hiByte ret)).writeByte (wordOf (s.sp - 1) Config.stackPage).toNat
        (loByte ret) := by
  rw [pushedPc, stackAddrAt_zero]; rfl

section

variable {s : State} (hm : s.port.mem.wf = true) (ret : Addr)

include hm

theorem wf_pushedPc : (pushedPc s ret).wf = true := wf_writeByte _ _ _ (wf_writeByte _ _ _ hm)

theorem readByte_pushedPc_zero : (pushedPc s ret).readByte (s.stackAddrAt 0).toNat = hiByte ret := by
  rw [pushedPc, readByte_writeByte_other _ _ _ _ (stackAddrAt_toNat_ne s (by decide)), readByte_writeByte_same _ _ _ hm]

theorem readByte_pushedPc_one : (pushedPc s ret).readByte (s.stackAddrAt 1).toNat = loByte ret :=
  readByte_writeByte_same _ _ _ (wf_writeByte _ _ _ hm)

end

/-- `RET` pulls the return address that was pushed. -/
theorem exec_ret_of_pushedPc {s t u : State} {ret : Addr} (h : exec .ret t = .next u) (hm : s.port.mem.wf = true)
    (hn : t.port.answers = []) (hmem : t.port.mem = pushedPc s ret) (hsp : t.sp = s.sp - 2) :
    u.pc = ret ∧ u.sp = s.sp ∧ u.flags = t.flags := by
  have hret := (returnResult t).1
  simp only [pullSlot_eq hsp, upcoming_of_no_script _ _ _ hn, hmem] at hret
  rw [hret] at h
  cases h
  refine ⟨?_, ?_, rfl⟩
  · exact (congrArg₂ wordOf (readByte_pushedPc_one hm ret) (readByte_pushedPc_zero hm ret)).trans
      (wordOf_loByte_hiByte ret)
  · rw [hsp]; exact sub_add_cancel _ _

/-- `RETI` pulls the flags from above the return address. -/
theorem exec_reti_of_pushedPc {s t u : State} {ret : Addr} {f : Flags} (h : exec .reti t = .next u)
    (hm : s.port.mem.wf = true) (hn : t.port.answers = [])
    (hmem : t.port.mem = (pushedPc s ret).writeByte (s.stackAddrAt 2).toNat (packPsw f)) (hsp : t.sp = s.sp - 3) :
    u.pc = ret ∧ u.sp = s.sp ∧ u.flags = f ∧ u.a = t.a ∧ u.x = t.x ∧ u.y = t.y := by
  have psw : t.port.mem.readByte (s.stackAddrAt 2).toNat = packPsw f := by
    rw [hmem, readByte_writeByte_same _ _ _ (wf_pushedPc hm ret)]
  have lo : t.port.mem.readByte (s.stackAddrAt 1).toNat = loByte ret := by
    rw [hmem, readByte_writeByte_other _ _ _ _ (stackAddrAt_toNat_ne s (by decide)), readByte_pushedPc_one hm]
  have hi : t.port.mem.readByte (s.stackAddrAt 0).toNat = hiByte ret := by
    rw [hmem, readByte_writeByte_other _ _ _ _ (stackAddrAt_toNat_ne s (by decide)), readByte_pushedPc_zero hm]
  have hreti := (returnResult t).2
  simp only [pullSlot_eq hsp, upcoming_of_no_script _ _ _ hn] at hreti
  rw [hreti] at h
  cases h
  refine ⟨(congrArg₂ wordOf lo hi).trans (wordOf_loByte_hiByte ret), ?_,
    (congrArg unpackPsw psw).trans (unpackPsw_packPsw f), rfl, rfl, rfl⟩
  rw [hsp]; exact sub_add_cancel _ _

/-! ### The obligations -/

/-- Settles O12: every rule is run to its end by definition; a step is the halt loop or one rule. -/
theorem everyStepCompletes : Obligations.EveryStepCompletes := by
  unfold Obligations.EveryStepCompletes
  have rule (i : Instr) (s : State) : ∃ t, exec i s = .next t := by cases i <;> exact ⟨_, rfl⟩
  refine ⟨fun s => ?_, rule, fun _ => step_of_halted, fun _ => step_of_not_halted⟩
  by_cases h : s.halted
  · exact ⟨_, step_of_halted h⟩
  · rw [step_of_not_halted h]; exact rule _ _

/-- Settles O50: the vector reads and the change of PC leave the stack as `BRK` pushed it. -/
theorem returnUndoesBreak : Obligations.ReturnUndoesBreak := by
  unfold Obligations.ReturnUndoesBreak
  intro s t u handler hm hn hbrk hreti
  have hn : t.port.answers = [] := (Scope.Frame.of_exec hbrk).calls.answers_nil hn
  rw [breakEntryResult s] at hbrk
  cases hbrk
  exact (exec_reti_of_pushedPc hreti hm hn rfl rfl :)

/-- Settles O51: the return address is PC after the operand bytes, of which `CALL` has two, `PCALL` one and `TCALL` none. -/
theorem returnUndoesCall : Obligations.ReturnUndoesCall := by
  unfold Obligations.ReturnUndoesCall
  intro s t u i sub hm hn hi hcall hret
  have hn : t.port.answers = [] := (Scope.Frame.of_exec hcall).calls.answers_nil hn
  obtain ⟨a, rfl⟩ | ⟨d, rfl⟩ | ⟨v, rfl⟩ := hi
  · rw [show s.pc + BitVec.ofNat 16 ((Instr.callAbs a).length - 1) = s.pc + 1 + 1 from (add_one_one s.pc).symm]
    cases hcall
    exact (exec_ret_of_pushedPc hret hm hn (pushedPc_eq s _).symm (sub_one_one s.sp) :)
  · cases hcall
    exact (exec_ret_of_pushedPc hret hm hn (pushedPc_eq s _).symm (sub_one_one s.sp) :)
  · rw [show s.pc + BitVec.ofNat 16 ((Instr.tcallV v).length - 1) = s.pc from BitVec.add_zero s.pc]
    cases hcall
    exact (exec_ret_of_pushedPc hret hm hn (pushedPc_eq s _).symm (sub_one_one s.sp) :)

/-- Settles O60: two runs per rule; for the two that push the packed byte, the calls with either byte. -/
theorem interruptFlagGatesNothing : Obligations.InterruptFlagGatesNothing := by
  unfold Obligations.InterruptFlagGatesNothing
  refine ⟨fun _ _ _ b hpush hbrk h => exec_withIf b hpush hbrk h, fun s b => ⟨getLsbD_two_packPsw _,
    getLsbD_two_packPsw _, getLsbD_packPsw_withIf s b, ⟨_, rfl, ?push, ?pushWithIf⟩,
    ⟨_, breakEntryResult s, rfl, exec_brk_withIf b (breakEntryResult s)⟩⟩⟩
  case push => rw [stackAddrAt_zero]; rfl
  case pushWithIf => rw [stackAddrAt_zero]; rfl

end Sys2Proof.Machine
end

section
/-! PROOFS. Timing (70_reset_and_hazards.md; R440, R441): how many port calls a step makes. The log says it: `LogsCalls k p q` says
that `k` counted calls were made between two ports. It is shown once of every instruction, `k` being the grid's cell at the
instruction's opcode; the halt loop, whose queries are not counted, is measured by `Tally`. -/

namespace Sys2Proof.Machine

/-! ### Counted calls and queries answered false -/

/-- From `p` to `q` the port has seen `k` counted calls and answered `n` queries with false. -/
def Tally (k n : Nat) (p q : Port) : Prop := q.counted = p.counted + k ∧ q.syncFalse = p.syncFalse + n

theorem Tally.trans {j k m n : Nat} {p q r : Port} (h : Tally j m p q) (h' : Tally k n q r) : Tally (j + k) (m + n) p r := by
  obtain ⟨hc, hs⟩ := h
  obtain ⟨hc', hs'⟩ := h'
  exact ⟨by omega, by omega⟩

theorem tally_of_counted {p : Port} {r : Request} (h : (p.entry r).counted = true) : Tally 1 0 p (p.perform r) := by
  rw [Tally, Port.counted, Port.syncFalse, perform_log]
  cases r with
  | read | write | idle => exact ⟨List.countP_cons_of_pos h, List.countP_cons_of_neg (by simp [Port.entry])⟩
  | sync => cases h

theorem tally_sync (p : Port) : Tally 0 (!p.syncAnswer).toNat p (p.perform .sync) := by
  rw [Tally, Port.counted, Port.syncFalse, perform_log, Port.entry]
  cases p.syncAnswer with
  | true => exact ⟨rfl, rfl⟩
  | false => exact ⟨rfl, List.countP_cons_of_pos rfl⟩

/-- The halt loop makes two counted calls for each query answered false (R334, R440). -/
theorem exists_tally_haltRequests (pc : Addr) (l : List Bool) (p : Port) (h : p.syncs = l) :
    ∃ n, Tally (2 * n) n p (p.performAll (haltRequests pc l)) := by
  induction l generalizing p with
  | nil =>
    have ha : p.syncAnswer = true := by simp [Port.syncAnswer, h, Config.syncAfterScript]
    have query : Tally 0 (!true).toNat p (p.perform .sync) := ha ▸ tally_sync p
    exact ⟨0, query⟩
  | cons b rest ih =>
    have ha : p.syncAnswer = b := by simp [Port.syncAnswer, h]
    have query : Tally 0 (!b).toNat p (p.perform .sync) := ha ▸ tally_sync p
    cases b with
    | true => exact ⟨0, query⟩
    | false =>
      obtain ⟨n, hn⟩ := ih (p.performAll [.sync, .read pc, .idle]) (by simp [h])
      have turn : Tally 2 1 p (p.performAll [.sync, .read pc, .idle]) :=
        (query.trans (tally_of_counted rfl)).trans (tally_of_counted rfl)
      exact ⟨1 + n, by rw [Nat.mul_add]; exact turn.trans hn⟩

theorem exists_tally_haltLoop {s t : State} (h : finish haltLoop s = .next t) : ∃ n, Tally (2 * n) n s.port t.port := by
  rw [finish_haltLoop] at h
  cases h
  exact exists_tally_haltRequests s.pc s.port.syncs s.port rfl

/-! ### The calls of an instruction, read off the log -/

/-- From `p` to `q` the log has grown by `k` counted calls. -/
def LogsCalls (k : Nat) (p q : Port) : Prop := q.log.drop k = p.log ∧ (q.log.take k).countP PortCall.counted = k

/-- When all the calls made are counted, none is a query. -/
theorem LogsCalls.tally {k : Nat} {p q : Port} (h : LogsCalls k p q) : Tally k 0 p q := by
  obtain ⟨hold, hnew⟩ := h
  have split : q.log = q.log.take k ++ p.log := by rw [← hold, List.take_append_drop]
  have all : ∀ c ∈ q.log.take k, c.counted = true :=
    List.countP_eq_length.1 (Nat.le_antisymm List.countP_le_length (hnew.symm ▸ List.length_take_le k q.log))
  have none : (q.log.take k).countP (fun c => decide (c = .sync false)) = 0 :=
    List.countP_eq_zero.2 fun c hc e => by
      have hcounted := all c hc
      rw [of_decide_eq_true e] at hcounted
      cases hcounted
  constructor
  · rw [Port.counted, split, List.countP_append, hnew, Nat.add_comm]; rfl
  · rw [Port.syncFalse, split, List.countP_append, none, Nat.add_comm]; rfl

/-- The tail of a branch makes no call or two idle calls (R272). -/
theorem LogsCalls.branchIf {k : Nat} {p : Port} {u : State} (h : LogsCalls k p u.port) (taken : Bool) (r : Byte) :
    LogsCalls k p (Machine.branchIf taken r u).2.port ∨ LogsCalls (k + 2) p (Machine.branchIf taken r u).2.port := by
  rw [branchIf_run]
  cases taken with
  | false => exact .inl h
  | true => exact .inr ⟨h.1, by simp [List.countP_cons, PortCall.counted, h.2]⟩

/-- The decoded instruction is encoded with the opcode it was decoded from (R73). -/
theorem exists_encode_decodeOp_eq_cons (op b1 b2 : Byte) : ∃ rest, encode (decodeOp op b1 b2) = op :: rest :=
  ⟨(encode (decodeOp op b1 b2)).tail,
    eq_of_opcodeTable (f := fun op => encode (decodeOp op b1 b2))
      (g := fun op => op :: (encode (decodeOp op b1 b2)).tail) rfl op⟩

/-- R440: the opcode fetch and the rule of an instruction make the calls of the grid at its opcode, two more only where a
branch is taken. The opcodes of the bit and table forms depend on their index. -/
theorem fetch_exec_logsCalls {i : Instr} {op : Byte} {rest : List Byte} {s t : State} (hi : i.WellFormed)
    (he : encode i = op :: rest) (hsleep : i ≠ .sleep) (hstop : i ≠ .stop) (h : exec i (fetch s).2 = .next t) :
    LogsCalls (cellAt callGrid 0 op) s.port t.port ∨
      (cellAt slashGrid false op = true ∧ LogsCalls (cellAt callGrid 0 op + 2) s.port t.port) := by
  cases i with
  | sleep => exact absurd rfl hsleep
  | stop => exact absurd rfl hstop
  | bplRel | bmiRel | bvcRel | bvsRel | bccRel | bcsRel | bneRel | beqRel | cbneDRel | cbneDXRel | dbnzDRel | dbnzYRel =>
    cases he; cases h
    exact (LogsCalls.branchIf ⟨rfl, rfl⟩ _ _).imp_right (⟨rfl, ·⟩)
  | bbsDbitRel b | bbcDbitRel b =>
    have hb : b < 8 := of_decide_eq_true hi
    cases he; cases h
    interval_cases b <;> exact (LogsCalls.branchIf ⟨rfl, rfl⟩ _ _).imp_right (⟨rfl, ·⟩)
  | set1Dbit b | clr1Dbit b =>
    have hb : b < 8 := of_decide_eq_true hi
    cases he; cases h
    interval_cases b <;> exact .inl ⟨rfl, rfl⟩
  | tcallV v =>
    have hv : v < 16 := of_decide_eq_true hi
    cases he; cases h
    interval_cases v <;> exact .inl ⟨rfl, rfl⟩
  | _ => cases he; cases h; exact .inl ⟨rfl, rfl⟩

/-- The opcode fetch before a halt loop is the 1 of the cell `1+2N` (R440). -/
theorem exists_tally_fetch_haltLoop {s t u : State} (hu : u.port = (fetch s).2.port) (h : finish haltLoop u = .next t) :
    ∃ n, Tally (1 + 2 * n) n s.port t.port := by
  have opcodeFetch : Tally 1 0 s.port u.port := hu ▸ tally_of_counted rfl
  obtain ⟨n, hn⟩ := exists_tally_haltLoop h
  exact ⟨n, by simpa only [Nat.zero_add] using opcodeFetch.trans hn⟩

/-- R440 for every instruction; only `SLEEP` and `STOP` ask the query. -/
theorem exists_tally_fetch_exec {i : Instr} {op : Byte} {rest : List Byte} {s t : State} (hi : i.WellFormed)
    (he : encode i = op :: rest) (h : exec i (fetch s).2 = .next t) :
    (∃ n, (op ≠ 0xEF → op ≠ 0xFF → n = 0) ∧ Tally (cellAt callGrid 0 op + 2 * n) n s.port t.port) ∨
      (cellAt slashGrid false op = true ∧ Tally (cellAt callGrid 0 op + 2) 0 s.port t.port) := by
  by_cases hsleep : i = .sleep
  · subst hsleep; cases he
    obtain ⟨n, hn⟩ := exists_tally_fetch_haltLoop (u := { (fetch s).2 with wait := true }) rfl h
    exact .inl ⟨n, fun hop => absurd rfl hop, hn⟩
  by_cases hstop : i = .stop
  · subst hstop; cases he
    obtain ⟨n, hn⟩ := exists_tally_fetch_haltLoop (u := { (fetch s).2 with stop := true }) rfl h
    exact .inl ⟨n, fun _ hop => absurd rfl hop, hn⟩
  obtain plain | ⟨hslash, taken⟩ := fetch_exec_logsCalls hi he hsleep hstop h
  · exact .inl ⟨0, fun _ _ => rfl, plain.tally⟩
  · exact .inr ⟨hslash, taken.tally⟩

/-! ### The obligation -/

/-- Settles O14: the halted step by the tally of its loop, any other by the grid at the opcode that was fetched. -/
theorem callCountsFollowTheGrid : Obligations.CallCountsFollowTheGrid := by
  unfold Obligations.CallCountsFollowTheGrid
  intro s t h op n
  obtain ⟨hh, h⟩ | ⟨hw, hs, h⟩ := step_cases h
  · obtain ⟨m, hc, hf⟩ := exists_tally_haltLoop h
    exact ⟨by omega, fun _ => by omega, fun hn => absurd hh hn⟩
  have hn : ¬s.halted := by simp [State.halted, hw, hs]
  obtain ⟨rest, he⟩ := exists_encode_decodeOp_eq_cons op ((fetchedBytes s).getD 1 0) ((fetchedBytes s).getD 2 0)
  obtain ⟨m, hm, hc, hf⟩ | ⟨hslash, hc, hf⟩ := exists_tally_fetch_exec (decodeOp_wellFormed _ _ _) he h
  · have hnm : n = m := by omega
    exact ⟨by omega, fun hh => absurd hh hn, fun _ => ⟨fun h₁ h₂ => hnm.trans (hm h₁ h₂), .inl (by omega)⟩⟩
  · exact ⟨by omega, fun hh => absurd hh hn, fun _ => ⟨fun _ _ => by omega, .inr ⟨hslash, by omega⟩⟩⟩

end Sys2Proof.Machine
end
